-- ==== Sys2Proof/Word.lean ====
section
/-! DEFINITION. The word of the block: every register value and every PHY address is a u16
(spec/00_scope R9, R55). -/

namespace Sys2Proof

/-- A u16: a register value or a PHY register address (R9). -/
abbrev Word := BitVec 16

end Sys2Proof
end

