-- ==== Sys2Proof/Syntax.lean ====
section
/-! DEFINITION. The commands of the block as syntax: one constructor of `Instr` for each row of
spec/opcode_table.json. Operand types hold exactly the legal operands (R101 to R103), so no term of
`Instr` is ill formed. -/

namespace Sys2Proof

/-- One of the four lanes (R3). -/
inductive Lane where
  | l0 | l1 | l2 | l3
deriving DecidableEq, Repr, Inhabited

/-- A LaneId: one concrete lane, or the all-lanes addressing mode, which is not a set union (R14). -/
inductive LaneId where
  | lane (l : Lane)
  | allLanes
deriving DecidableEq, Repr, Inhabited

/-- The three domains TOGGLE_RESET takes (R103). -/
inductive ResetDomain where
  | rx | txCore | txPll
deriving DecidableEq, Repr, Inhabited

/-- The eighteen commands (R101). REG_READ and REG_WRITE take their address and data from the
latched ARG_ADDR and ARG_DATA (R106), so they carry no operand here. -/
inductive Instr where
  | probe
  | detach
  | regRead
  | regWrite
  | assertRxReset (L : LaneId)
  | deassertRxReset (L : LaneId)
  | assertTxCoreReset (L : LaneId)
  | deassertTxCoreReset (L : LaneId)
  | assertTxPllReset (L : LaneId)
  | deassertTxPllReset (L : LaneId)
  | assertRxPowerdown (L : LaneId)
  | deassertRxPowerdown (L : LaneId)
  | disableLolMonitor (L : LaneId)
  | toggleReset (d : ResetDomain) (L : LaneId)
  | runAutozero (L : LaneId)
  | runFreqPll (L : LaneId)
  | txRestart (l : Lane)
  | recover (L : LaneId)
deriving DecidableEq, Repr, Inhabited

end Sys2Proof
end

