-- ==== Sys2Proof/Config.lean ====
section
/-! DEFINITION. The configuration record `Cfg` of spec/00_scope R7, the values R7 fixes, the
environment's moves and answers, and the free values: constants with no body, of which nothing can
be proved. -/

namespace Sys2Proof

/-- The five domains of the Reset Controller (R170). -/
inductive Domain where
  | rxRst | txcoreRst | txpllRst | rxPd | lolDis
deriving DecidableEq, Repr, Inhabited

/-- Where a domain's bit of a concrete lane lives (R170). -/
inductive LaneTarget where
  | perLaneBit (base : Word) (k : Nat)
  | laneBits (addr : Word) (off : Nat)
deriving DecidableEq, Repr

/-- Where a domain's bits live for AllLanes (R170). -/
inductive AllTarget where
  | globalBit (addr : Word) (k : Nat)
  | laneBitsAll (addr : Word) (off : Nat)
  | eachLane
deriving DecidableEq, Repr

/-- The families the start and continue patterns may be written to (R7, R230). -/
inductive FaReg where
  | faCtrl | oscMan | rxMain
deriving DecidableEq, Repr

/-- The parameters of R7 that no source fixes, that have a default, or that a source gives only
approximately. Durations are in microseconds (log 6). -/
structure Cfg where
  hasIrqRetry : Bool
  regcalPollLimit : Option Nat
  tRegcalPoll : Nat
  tRxRst : Nat
  tAzPoll : Nat
  tTxRestart : Nat
  tMon : Nat
  tToggle : Nat
  tFaShort : Nat
  tFaLong : Nat
  tIrqRetry : Nat
  aMrst : Word
  aSaOvrEn : Word
  aRegcal : Word
  bRegcal : Nat
  aAggLock : Word
  bAggLock : Nat
  aAggLaneCtrl : Word
  bTxen : Nat
  aFifo : Word
  patFifoAssert : Word
  patFifoClear : Word
  aLol : Word
  aLos : Word
  aMisc : Word
  baseOscMan : Word
  baseRxMain : Word
  baseSaOfs : List Word
  baseFaCtrl : Word
  baseTxpllStat : Word
  bLock : Nat
  baseOscCode : Word
  fOscCodeHi : Nat
  fOscCodeLo : Nat
  patFaEnable : Word
  patFaStart : Word
  patFaCont : Word
  patOscFinal : Word
  regFaStart : FaReg
  regFaCont : FaReg
  ltRxRst : LaneTarget
  ltTxcoreRst : LaneTarget
  ltTxpllRst : LaneTarget
  ltRxPd : LaneTarget
  ltLolDis : LaneTarget
  atRxPd : AllTarget
  atLolDis : AllTarget
  loldisSet : Bool
deriving DecidableEq, Repr

namespace Config

/-! The values R7 fixes (source, derived or decision). -/

def laneStride : Word := 0x0100#16
def vcoFactory : Word := 390#16
def rxVcoCodeOffset : Word := 5#16
def azMaxAttempts : Nat := 64
def azDoneBit : Nat := 2
def azNumOfs : Nat := 9
def azShift : Nat := 8
def patAzArm : Word := 0x0418#16
def patAzTrig1 : Word := 0x0410#16
def patAzTrig2 : Word := 0x0412#16
def patSaOvrOn : Word := 0x0001#16
def patSaOvrOff : Word := 0x0000#16
def patAllReset : Word := 0x9C00#16
def mrstRxBit : Nat := 15
def mrstCoredpBit : Nat := 12
def mrstTxcoreBit : Nat := 10
def mrstTxpllBit : Nat := 11
def productId : BitVec 32 := 0x02107440#32
def aIdHi : Word := 0x0002#16
def aIdLo : Word := 0x0003#16
def irqMaxAttempts : Nat := 8

end Config

/-- An agent that runs invocations (R15). -/
inductive Agent where
  | host | monitor | irq2 | irq3
deriving DecidableEq, Repr, Inhabited

/-- A lane of IRQ_LANES = {2, 3} (R7, R299). -/
inductive IrqLane where
  | l2 | l3
deriving DecidableEq, Repr, Inhabited

/-- A host primitive (R112): a host write, a host read, or WAIT_DONE. -/
inductive HostPrim where
  | hw (off : BitVec 4) (v : Word)
  | hr (off : BitVec 4)
  | waitDone
deriving DecidableEq, Repr, Inhabited

/-- The PHY environment's answer to one transaction (R71, R73): it completes, a read returning the
value, or it fails. -/
inductive Reply where
  | ok (v : Word)
  | fail
deriving DecidableEq, Repr, Inhabited

/-- What one agent does in one step (R30). A move that is not enabled changes nothing.
`sequencer` carries the draw of R296, the lane a tick is to recover next. `elapse` lets time pass. -/
inductive Move where
  | sequencer (next : Lane)
  | hostWrite (off : BitVec 4) (v : Word)
  | hostRead (off : BitVec 4)
  | hostProgram
  | timer
  | irqSample (l : IrqLane) (level : Bool)
  | elapse (us : Nat)
  | reset (level2 level3 : Bool)
deriving DecidableEq, Repr, Inhabited

namespace Config

/-! Free values of the environment. -/

/-- FREE VALUE: the moves of the agents in a round that begins at the `n`th move (R30; log 3). -/
opaque freeMoves : Nat → List Move

/-- FREE VALUE: the requesters drawn, one for each grant, in a round of draws that begins at the
`n`th move (R343; log 29). -/
opaque freeGrants : Nat → List Agent

/-- A move of the sequencer. -/
def isSequencer : Move → Bool
  | .sequencer _ => true
  | .hostWrite _ _ | .hostRead _ | .hostProgram | .timer | .irqSample _ _ | .elapse _
  | .reset _ _ => false

/-- A round of moves: the drawn ones, in which the sequencer moves at least once (log 3). -/
def withSequencer (ms : List Move) : List Move :=
  if ms.any isSequencer then ms else ms ++ [.sequencer .l0]

/-- A round of draws: the drawn ones, in which each requester comes at least once, so that no
requester is passed over for ever (R343; log 29). -/
def withEveryAgent (as : List Agent) : List Agent :=
  as ++ [Agent.host, .monitor, .irq2, .irq3].filter fun a => decide (a ∉ as)

/-- The round of moves that begins at the `n`th move. -/
def moveRound (n : Nat) : List Move := withSequencer (freeMoves n)

/-- The round of draws that begins at the `n`th move. -/
def grantRound (n : Nat) : List Agent := withEveryAgent (freeGrants n)

/-- FREE VALUE: the PHY's answer to the `n`th transaction, where `State.phy` lists none (R71, R73;
log 1, log 2). -/
opaque freeReply : Nat → Reply

/-- FREE VALUE: the level of a lane's interrupt input at reset (R59, R370; log 13). -/
opaque irqLevelAtReset : IrqLane → Bool

/-! Free values of the OPEN parameters of R7. Their types and the two maps below take in exactly
the values R8 admits (log 4). -/

/-- The names of the aggregate registers with an OPEN address. -/
inductive AddrName where
  | mrst | saOvrEn | regcal | aggLock | aggLaneCtrl | fifo | lol | los | misc
deriving DecidableEq, Repr

/-- The names of the per-lane families with an OPEN base, `saOfs j` for SA_OFS_j. -/
inductive BaseName where
  | oscMan | rxMain | faCtrl | txpllStat | oscCode | saOfs (j : Fin 9)
deriving DecidableEq, Repr

/-- The names of the OPEN bit indices. -/
inductive BitName where
  | regcal | aggLock | txen | lock | oscCodeLo
deriving DecidableEq, Repr

/-- The names of the OPEN patterns. -/
inductive PatName where
  | fifoAssert | fifoClear | faEnable | faStart | faCont | oscFinal
deriving DecidableEq, Repr

/-- The names of the OPEN durations; `faGap` is how much longer than one microsecond T_FA_LONG
exceeds T_FA_SHORT. -/
inductive TimeName where
  | toggle | faShort | faGap | irqRetry
deriving DecidableEq, Repr

/-- A number of an address that is neither 0x0002 nor 0x0003, as an address (R8(f)). -/
def notId (n : Nat) : Word := BitVec.ofNat 16 (if n < 2 then n else n + 2)

opaque openHasIrqRetry : Bool
opaque openAddr : AddrName → Fin 65534
opaque openBase : BaseName → Fin 0xFCFE
opaque openBit : BitName → Fin 16
opaque openOscCodeWidth : Fin 16
opaque openPattern : PatName → Word
opaque openTime : TimeName → Nat
opaque openFaStart : Fin 3
opaque openFaCont : Fin 3
opaque openLaneForm : Domain → Bool
opaque openLaneBase : Domain → Fin 0xFCFE
opaque openLaneAddr : Domain → Fin 65534
opaque openLaneBit : Domain → Fin 16
opaque openLaneOff : Domain → Fin 13
opaque openAllForm : Domain → Fin 3
opaque openAllAddr : Domain → Fin 65534
opaque openAllBit : Domain → Fin 16
opaque openAllOff : Domain → Fin 13

/-- One of the three families of REG_FA_START and REG_FA_CONT. -/
def faReg (n : Fin 3) : FaReg := if n = 0 then .faCtrl else if n = 1 then .oscMan else .rxMain

/-- The OPEN `LT[d]`. -/
def openLaneTarget (d : Domain) : LaneTarget :=
  if openLaneForm d then .perLaneBit (notId (openLaneBase d).val) (openLaneBit d).val
  else .laneBits (notId (openLaneAddr d).val) (openLaneOff d).val

/-- The OPEN `AT[RX_PD]` and `AT[LOL_DIS]`. -/
def openAllTarget (d : Domain) : AllTarget :=
  if openAllForm d = 0 then .globalBit (notId (openAllAddr d).val) (openAllBit d).val
  else if openAllForm d = 1 then .laneBitsAll (notId (openAllAddr d).val) (openAllOff d).val
  else .eachLane

/-- The configuration of the machine that `State.reset` describes: every OPEN parameter free, every
default of R7 at its default, and the approximate delays at their figures (log 6). -/
def device : Cfg where
  hasIrqRetry := openHasIrqRetry
  regcalPollLimit := none
  tRegcalPoll := 0
  tRxRst := 2000
  tAzPoll := 100
  tTxRestart := 1500
  tMon := 2500000
  tToggle := openTime .toggle
  tFaShort := openTime .faShort
  tFaLong := openTime .faShort + 1 + openTime .faGap
  tIrqRetry := openTime .irqRetry
  aMrst := notId (openAddr .mrst).val
  aSaOvrEn := notId (openAddr .saOvrEn).val
  aRegcal := notId (openAddr .regcal).val
  bRegcal := (openBit .regcal).val
  aAggLock := notId (openAddr .aggLock).val
  bAggLock := (openBit .aggLock).val
  aAggLaneCtrl := notId (openAddr .aggLaneCtrl).val
  bTxen := (openBit .txen).val
  aFifo := notId (openAddr .fifo).val
  patFifoAssert := openPattern .fifoAssert
  patFifoClear := openPattern .fifoClear
  aLol := notId (openAddr .lol).val
  aLos := notId (openAddr .los).val
  aMisc := notId (openAddr .misc).val
  baseOscMan := notId (openBase .oscMan).val
  baseRxMain := notId (openBase .rxMain).val
  baseSaOfs := [notId (openBase (.saOfs 0)).val, notId (openBase (.saOfs 1)).val,
    notId (openBase (.saOfs 2)).val, notId (openBase (.saOfs 3)).val,
    notId (openBase (.saOfs 4)).val, notId (openBase (.saOfs 5)).val,
    notId (openBase (.saOfs 6)).val, notId (openBase (.saOfs 7)).val,
    notId (openBase (.saOfs 8)).val]
  baseFaCtrl := notId (openBase .faCtrl).val
  baseTxpllStat := notId (openBase .txpllStat).val
  bLock := (openBit .lock).val
  baseOscCode := notId (openBase .oscCode).val
  fOscCodeHi := min 15 ((openBit .oscCodeLo).val + openOscCodeWidth.val)
  fOscCodeLo := (openBit .oscCodeLo).val
  patFaEnable := openPattern .faEnable
  patFaStart := openPattern .faStart
  patFaCont := openPattern .faCont
  patOscFinal := openPattern .oscFinal
  regFaStart := faReg openFaStart
  regFaCont := faReg openFaCont
  ltRxRst := openLaneTarget .rxRst
  ltTxcoreRst := openLaneTarget .txcoreRst
  ltTxpllRst := openLaneTarget .txpllRst
  ltRxPd := openLaneTarget .rxPd
  ltLolDis := openLaneTarget .lolDis
  atRxPd := openAllTarget .rxPd
  atLolDis := openAllTarget .lolDis
  loldisSet := true

end Config

end Sys2Proof
end

