-- ==== Sys2Proof/WellFormed.lean ====
section
/-! DEFINITION. The well-formedness of a configuration (spec/00_scope R8, 43_freq_pll R230) and a
configuration paired with its check, so that no machine holds an ill-formed one. Every term of
`Instr` is well formed by its type (Syntax.lean). -/

namespace Sys2Proof

/-- The four addresses of a per-lane register with lane 0 address `base` (R83(a)). -/
def laneAddrs (base : Word) : List Word :=
  [base, base + 0x0100#16, base + 0x0200#16, base + 0x0300#16]

/-- R8(a): no lane address of a per-lane base wraps. -/
def baseOk (b : Word) : Bool := decide (b.toNat + 3 * 0x100 ≤ 0xFFFF)

/-- R8(f): an address is not one of the identification offsets. -/
def notIdAddr (a : Word) : Bool := decide (a ≠ Config.aIdHi ∧ a ≠ Config.aIdLo)

/-- R8(a) and R8(f) of one per-lane base. -/
def laneBaseOk (b : Word) : Bool := baseOk b && (laneAddrs b).all notIdAddr

/-- R8(b): a bit index is in 0..15. -/
def bitOk (k : Nat) : Bool := decide (k ≤ 15)

/-- R8(c): a lane-bit offset is in 0..12. -/
def offOk (off : Nat) : Bool := decide (off ≤ 12)

/-- R8(a), (b), (c) and (f) of a lane target. -/
def LaneTarget.ok : LaneTarget → Bool
  | .perLaneBit base k => laneBaseOk base && bitOk k
  | .laneBits addr off => notIdAddr addr && offOk off

/-- R8(b), (c) and (f) of an all-lanes target. -/
def AllTarget.ok : AllTarget → Bool
  | .globalBit addr k => notIdAddr addr && bitOk k
  | .laneBitsAll addr off => notIdAddr addr && offOk off
  | .eachLane => true

namespace Cfg

/-- The per-lane bases of R46's families. -/
def perLaneBases (c : Cfg) : List Word :=
  [c.baseOscMan, c.baseRxMain, c.baseFaCtrl, c.baseTxpllStat, c.baseOscCode] ++ c.baseSaOfs

/-- The addresses of R46's aggregate families. -/
def aggregateAddrs (c : Cfg) : List Word :=
  [c.aMrst, c.aSaOvrEn, c.aRegcal, c.aAggLock, c.aAggLaneCtrl, c.aFifo, c.aLol, c.aLos, c.aMisc]

/-- The bit indices of R7. -/
def bitIndices (c : Cfg) : List Nat :=
  [c.bRegcal, c.bAggLock, c.bTxen, c.bLock, c.fOscCodeHi, c.fOscCodeLo]

/-- The lane targets `LT[d]`. -/
def laneTargets (c : Cfg) : List LaneTarget :=
  [c.ltRxRst, c.ltTxcoreRst, c.ltTxpllRst, c.ltRxPd, c.ltLolDis]

/-- The OPEN all-lanes targets. -/
def allTargets (c : Cfg) : List AllTarget := [c.atRxPd, c.atLolDis]

/-- R8(e): a poll limit, when present, is at least 1. -/
def limitOk (c : Cfg) : Bool :=
  match c.regcalPollLimit with
  | none => true
  | some n => decide (1 ≤ n)

/-- R8 whole, with the nine offset registers of R7 and the relation T_FA_SHORT < T_FA_LONG that
R230 demands. -/
def wellFormed (c : Cfg) : Bool :=
  c.perLaneBases.all laneBaseOk
    && c.aggregateAddrs.all notIdAddr
    && c.bitIndices.all bitOk
    && c.laneTargets.all LaneTarget.ok
    && c.allTargets.all AllTarget.ok
    && decide (c.fOscCodeLo ≤ c.fOscCodeHi)
    && c.limitOk
    && decide (c.baseSaOfs.length = Config.azNumOfs)
    && decide (c.tFaShort < c.tFaLong)

end Cfg

/-- A configuration a machine may hold: R8's check comes with it. -/
structure WfCfg where
  cfg : Cfg
  ok : cfg.wellFormed = true
deriving DecidableEq, Repr

namespace Config

theorem notId_ok (n : Nat) (h : n < 65534) : notIdAddr (notId n) = true := by
  simp only [notIdAddr, notId, aIdHi, aIdLo, decide_eq_true_eq, ne_eq, ← BitVec.toNat_inj,
    BitVec.toNat_ofNat]
  split <;> omega

theorem notId_laneBaseOk (n : Nat) (h : n < 0xFCFE) : laneBaseOk (notId n) = true := by
  simp only [laneBaseOk, baseOk, laneAddrs, List.all_cons, List.all_nil, notIdAddr, notId, aIdHi,
    aIdLo, Bool.and_eq_true, decide_eq_true_eq, ne_eq, ← BitVec.toNat_inj, BitVec.toNat_ofNat,
    BitVec.toNat_add, Bool.and_true]
  split <;> omega

theorem openLaneTarget_ok (d : Domain) : (openLaneTarget d).ok = true := by
  unfold openLaneTarget
  split
  · simp only [LaneTarget.ok, notId_laneBaseOk _ (openLaneBase d).isLt, bitOk, Bool.true_and,
      decide_eq_true_eq]
    omega
  · simp only [LaneTarget.ok, notId_ok _ (openLaneAddr d).isLt, offOk, Bool.true_and,
      decide_eq_true_eq]
    omega

theorem openAllTarget_ok (d : Domain) : (openAllTarget d).ok = true := by
  unfold openAllTarget
  split
  · simp only [AllTarget.ok, notId_ok _ (openAllAddr d).isLt, bitOk, Bool.true_and,
      decide_eq_true_eq]
    omega
  · split
    · simp only [AllTarget.ok, notId_ok _ (openAllAddr d).isLt, offOk, Bool.true_and,
        decide_eq_true_eq]
      omega
    · rfl

theorem device_wellFormed : device.wellFormed = true := by
  have hb : ∀ n : Fin 0xFCFE, laneBaseOk (notId n.val) = true := fun n => notId_laneBaseOk _ n.isLt
  have ha : ∀ n : Fin 65534, notIdAddr (notId n.val) = true := fun n => notId_ok _ n.isLt
  have hk : ∀ n : Fin 16, bitOk n.val = true := fun n => by
    simp only [bitOk, decide_eq_true_eq]; omega
  have hm : bitOk (min 15 ((openBit .oscCodeLo).val + openOscCodeWidth.val)) = true := by
    simp only [bitOk, decide_eq_true_eq]; omega
  have hl : (openBit .oscCodeLo).val ≤ min 15 ((openBit .oscCodeLo).val + openOscCodeWidth.val) := by
    omega
  have ht : openTime .faShort < openTime .faShort + 1 + openTime .faGap := by omega
  simp only [Cfg.wellFormed, Cfg.perLaneBases, Cfg.aggregateAddrs, Cfg.bitIndices, Cfg.laneTargets,
    Cfg.allTargets, Cfg.limitOk, device, List.all_cons, List.all_nil, List.cons_append,
    List.nil_append, hb, ha, hk, hm, hl, ht, openLaneTarget_ok, openAllTarget_ok, azNumOfs,
    List.length_cons, List.length_nil, Bool.and_true, decide_true]

/-- The configuration of `State.reset`, with its check. -/
def deviceConf : WfCfg := ⟨device, device_wellFormed⟩

end Config

end Sys2Proof
end

