-- ==== Sys2Proof/Decode.lean ====
section
/-! DEFINITION. The command decoder of spec/30_encoding R105, total and rejecting by name, and the
encoder of R111, each written from the field layout of R100. -/

namespace Sys2Proof

/-- Why a word is a reserved encoding (R109). -/
inductive Illegal where
  /-- Bits 1:0 are not 00 (R104). -/
  | rsvNotZero
  /-- The opcode is not in R101. -/
  | reservedOpcode
  /-- A LANE field on a command that takes no lane. -/
  | laneNotZero
  /-- A LANE code of 5, 6 or 7 (R102). -/
  | reservedLane
  /-- AllLanes on TX_RESTART (R239). -/
  | allLanesOnTxRestart
  /-- A DOM field on a command other than TOGGLE_RESET. -/
  | domNotZero
  /-- A DOM code of 3 to 7 on TOGGLE_RESET (R103). -/
  | reservedDomain
deriving DecidableEq, Repr

/-! The fields of R100. -/

def fieldOpc (w : Word) : BitVec 8 := w.extractLsb' 8 8
def fieldLane (w : Word) : BitVec 3 := w.extractLsb' 5 3
def fieldDom (w : Word) : BitVec 3 := w.extractLsb' 2 3
def fieldRsv (w : Word) : BitVec 2 := w.extractLsb' 0 2

/-- The concrete lane of a LANE code (R102). -/
def laneOfCode (ln : BitVec 3) : Option Lane :=
  if ln = 0 then some .l0 else if ln = 1 then some .l1 else if ln = 2 then some .l2
  else if ln = 3 then some .l3 else none

/-- The LaneId of a LANE code: R102's `lane(ln)`. -/
def laneIdOfCode (ln : BitVec 3) : Option LaneId :=
  match laneOfCode ln with
  | some l => some (.lane l)
  | none => if ln = 4 then some .allLanes else none

/-- The domain of a DOM code: R103's `domain(dm)`. -/
def domainOfCode (dm : BitVec 3) : Option ResetDomain :=
  if dm = 0 then some .rx else if dm = 1 then some .txCore else if dm = 2 then some .txPll else none

/-- A command that takes no operand: LANE and DOM must be 000. -/
def plainCmd (i : Instr) (ln dm : BitVec 3) : Except Illegal Instr :=
  if ln ≠ 0 then .error .laneNotZero else if dm ≠ 0 then .error .domNotZero else .ok i

/-- A command that takes a LaneId: DOM must be 000. -/
def laneCmd (f : LaneId → Instr) (ln dm : BitVec 3) : Except Illegal Instr :=
  match laneIdOfCode ln with
  | none => .error .reservedLane
  | some L => if dm ≠ 0 then .error .domNotZero else .ok (f L)

/-- TOGGLE_RESET: a LaneId and a domain. -/
def toggleCmd (ln dm : BitVec 3) : Except Illegal Instr :=
  match laneIdOfCode ln with
  | none => .error .reservedLane
  | some L =>
    match domainOfCode dm with
    | none => .error .reservedDomain
    | some d => .ok (.toggleReset d L)

/-- TX_RESTART: a concrete lane only. -/
def txRestartCmd (ln dm : BitVec 3) : Except Illegal Instr :=
  match laneOfCode ln with
  | none => .error (if ln = 4 then .allLanesOnTxRestart else .reservedLane)
  | some l => if dm ≠ 0 then .error .domNotZero else .ok (.txRestart l)

/-- The opcode map of R101 over the other two fields. -/
def decodeOpc (opc : BitVec 8) (ln dm : BitVec 3) : Except Illegal Instr :=
  if opc = 0x01#8 then plainCmd .probe ln dm
  else if opc = 0x02#8 then plainCmd .detach ln dm
  else if opc = 0x03#8 then plainCmd .regRead ln dm
  else if opc = 0x04#8 then plainCmd .regWrite ln dm
  else if opc = 0x10#8 then laneCmd .assertRxReset ln dm
  else if opc = 0x11#8 then laneCmd .deassertRxReset ln dm
  else if opc = 0x12#8 then laneCmd .assertTxCoreReset ln dm
  else if opc = 0x13#8 then laneCmd .deassertTxCoreReset ln dm
  else if opc = 0x14#8 then laneCmd .assertTxPllReset ln dm
  else if opc = 0x15#8 then laneCmd .deassertTxPllReset ln dm
  else if opc = 0x16#8 then laneCmd .assertRxPowerdown ln dm
  else if opc = 0x17#8 then laneCmd .deassertRxPowerdown ln dm
  else if opc = 0x18#8 then laneCmd .disableLolMonitor ln dm
  else if opc = 0x19#8 then toggleCmd ln dm
  else if opc = 0x20#8 then laneCmd .runAutozero ln dm
  else if opc = 0x21#8 then laneCmd .runFreqPll ln dm
  else if opc = 0x22#8 then txRestartCmd ln dm
  else if opc = 0x30#8 then laneCmd .recover ln dm
  else .error .reservedOpcode

/-- R105: the command a CMD word stands for, or why it is a reserved encoding. It looks at no
state. -/
def decode (w : Word) : Except Illegal Instr :=
  if fieldRsv w ≠ 0 then .error .rsvNotZero else decodeOpc (fieldOpc w) (fieldLane w) (fieldDom w)

/-! The encoder (R111). -/

/-- The LANE code of a concrete lane (R102). -/
def codeOfLane : Lane → BitVec 3
  | .l0 => 0 | .l1 => 1 | .l2 => 2 | .l3 => 3

/-- The LANE code of a LaneId (R102). -/
def codeOfLaneId : LaneId → BitVec 3
  | .lane l => codeOfLane l
  | .allLanes => 4

/-- The DOM code of a domain (R103). -/
def codeOfDomain : ResetDomain → BitVec 3
  | .rx => 0 | .txCore => 1 | .txPll => 2

/-- The opcode of a command (R101). -/
def opcodeOf : Instr → BitVec 8
  | .probe => 0x01
  | .detach => 0x02
  | .regRead => 0x03
  | .regWrite => 0x04
  | .assertRxReset _ => 0x10
  | .deassertRxReset _ => 0x11
  | .assertTxCoreReset _ => 0x12
  | .deassertTxCoreReset _ => 0x13
  | .assertTxPllReset _ => 0x14
  | .deassertTxPllReset _ => 0x15
  | .assertRxPowerdown _ => 0x16
  | .deassertRxPowerdown _ => 0x17
  | .disableLolMonitor _ => 0x18
  | .toggleReset _ _ => 0x19
  | .runAutozero _ => 0x20
  | .runFreqPll _ => 0x21
  | .txRestart _ => 0x22
  | .recover _ => 0x30

/-- The LANE field of a command: 000 where it takes no lane. -/
def laneFieldOf : Instr → BitVec 3
  | .probe | .detach | .regRead | .regWrite => 0
  | .assertRxReset L | .deassertRxReset L | .assertTxCoreReset L | .deassertTxCoreReset L
  | .assertTxPllReset L | .deassertTxPllReset L | .assertRxPowerdown L | .deassertRxPowerdown L
  | .disableLolMonitor L | .toggleReset _ L | .runAutozero L | .runFreqPll L
  | .recover L => codeOfLaneId L
  | .txRestart l => codeOfLane l

/-- The DOM field of a command: 000 but for TOGGLE_RESET. -/
def domFieldOf : Instr → BitVec 3
  | .toggleReset d _ => codeOfDomain d
  | .probe | .detach | .regRead | .regWrite | .assertRxReset _ | .deassertRxReset _
  | .assertTxCoreReset _ | .deassertTxCoreReset _ | .assertTxPllReset _ | .deassertTxPllReset _
  | .assertRxPowerdown _ | .deassertRxPowerdown _ | .disableLolMonitor _ | .runAutozero _
  | .runFreqPll _ | .txRestart _ | .recover _ => 0

/-- R100: the word of the four fields, RSV 00. -/
def packFields (opc : BitVec 8) (ln dm : BitVec 3) : Word := opc ++ ln ++ dm ++ (0 : BitVec 2)

/-- R111: the word of a command. -/
def encode (i : Instr) : Word := packFields (opcodeOf i) (laneFieldOf i) (domFieldOf i)

/-- The command the decoder reads from an instruction of `nbits` bits with value `w`: a command is
one 16-bit word (R110), so every bit above `nbits` is 0. -/
def decodeTableWord (nbits w : Nat) : Option Instr :=
  match decode (BitVec.ofNat 16 (w % 2 ^ nbits)) with
  | .ok i => some i
  | .error _ => none

end Sys2Proof
end

