-- ==== Sys2Proof/Machine/State.lean ====
section
/-! DEFINITION. The state of the block as plain data (spec/10_state), its stop reasons, and the
state after reset (spec/70_reset_and_hazards R370). -/

namespace Sys2Proof.Machine

/-- The outcome kinds (R108, R330). The four reserved kinds of the source are in the taxonomy and
never produced (R336). -/
inductive RecoveryOutcome where
  | success
  | autoZeroTimeout
  | txPllNotLocked
  | calibrationNotDone
  | efuseIncomplete
  | voltageRegNotComplete
  | invalidLane
  | transportError
  | deviceIdentityMismatch
  | regulatorCalibrationTimeout
deriving DecidableEq, Repr, Inhabited

/-- Why the last command request was refused (R35, R141); `none` is code 0. -/
inductive RefuseReason where
  | none | reservedEncoding | notBound | alreadyBound
deriving DecidableEq, Repr, Inhabited

/-- The orchestrator's states (R41, R260). The reason of Failed is `State.reason`. -/
inductive Fsm where
  | idle | resetAsserted | calibratingAZ | acquiringFrequency | lockTesting | locked | failed
deriving DecidableEq, Repr, Inhabited

/-- The named delays of R375; R7 gives their lengths. -/
inductive Delay where
  | tRxRst | tAzPoll | tTxRestart | tFaShort | tFaLong | tToggle | tIrqRetry | tRegcalPoll
deriving DecidableEq, Repr, Inhabited

/-- The command or procedure name an invocation is recorded under (R15). -/
inductive Kind where
  | probe | detach | regRead | regWrite
  | assertRxReset | deassertRxReset | assertTxCoreReset | deassertTxCoreReset
  | assertTxPllReset | deassertTxPllReset | assertRxPowerdown | deassertRxPowerdown
  | disableLolMonitor | toggleReset | runAutozero | runFreqPll | txRestart | recover
  | tick | irqRetry
deriving DecidableEq, Repr, Inhabited

/-- The events of the trace (R15). `began`, `ended` and `logged` are R15's Begin, End and Log. -/
inductive Event where
  | rd (a v : Word)
  | rdFail (a : Word)
  | wr (a v : Word)
  | wrFail (a v : Word)
  | wait (t : Delay)
  | began (ag : Agent) (k : Kind) (L : Option LaneId)
  | ended (ag : Agent) (k : Kind) (L : Option LaneId) (o : RecoveryOutcome)
  | logged (ag : Agent) (L : Option LaneId) (o : RecoveryOutcome)
  | hostWr (off : BitVec 4) (v : Word)
  | hostRd (off : BitVec 4) (v : Word)
deriving DecidableEq, Repr, Inhabited

/-- `st.hostCmd` when set: the accepted command with its latched ARG_ADDR and ARG_DATA (R57, R140). -/
structure HostCmd where
  cmd : Instr
  addr : Word
  data : Word
deriving DecidableEq, Repr

/-- How far a monitor tick is (R295): sampling, with the lock bits read so far in lane order;
running the recovery of `L`, with those left after it; or with no primitive left, its final step
next. -/
inductive TickPhase where
  | sample (taken : List Bool)
  | recover (L : LaneId) (left : List LaneId)
  | finish
deriving DecidableEq, Repr

/-- The command or procedure of an invocation, with its operands (R43). -/
inductive Proc where
  | command (c : Instr) (addr data : Word)
  | tick (phase : TickPhase)
  | irqRetry (l : IrqLane)
deriving DecidableEq, Repr

/-- `st.step`: the next primitive of the procedure, by its index in the procedure's code; or the
procedure has returned an outcome and its final step is next; or an interrupt attempt that returned
`o` has taken its retry delay (R43, R300). -/
inductive Position where
  | run (n : Nat)
  | returned (o : RecoveryOutcome)
  | retried (o : RecoveryOutcome)
deriving DecidableEq, Repr

/-- `st.inv` when set (R43), with the pseudocode's local variables: `v`, the value last read for
use, and `allDone`, the `done` of an auto-zero attempt (log 21). -/
structure Invocation where
  proc : Proc
  pos : Position
  v : Word
  allDone : Bool
deriving DecidableEq, Repr

/-- The VCO trim cache: one word for each concrete lane, none for AllLanes (R53). -/
structure VcoTable where
  l0 : Word
  l1 : Word
  l2 : Word
  l3 : Word
deriving DecidableEq, Repr

/-- The interrupt-retry state of one lane (R59). -/
structure IrqLine where
  level : Bool
  active : Bool
  pending : Bool
  attempts : Nat
  lastOk : Bool
deriving DecidableEq, Repr

/-- The state of the block and, last, the model's own fields for its environment. STATUS, FSM and
IRQ_STATUS are views of it (Flags.lean). -/
structure State where
  /-- The configuration (R7), well formed (R8); no step changes it. -/
  conf : WfCfg
  cmd : Word
  argAddr : Word
  argData : Word
  result : Word
  resultHi : Word
  /-- STATUS.BUSY (R35). -/
  busy : Bool
  /-- STATUS.DONE (R35). -/
  doneFlag : Bool
  cmdRefused : Bool
  cmdOverrun : Bool
  /-- STATUS.OUTCOME; `none` is the code 0xF (R35). -/
  outcome : Option RecoveryOutcome
  refuseReason : RefuseReason
  monSample : Word
  vco : VcoTable
  fsm : Fsm
  reason : Option RecoveryOutcome
  target : Option LaneId
  agent : Agent
  inv : Option Invocation
  lock : Option Agent
  hostCmd : Option HostCmd
  azCount : Nat
  regcalCount : Nat
  bound : Bool
  transportFault : Bool
  monArmed : Bool
  monDue : Bool
  monRef : Nat
  monPeriod : Nat
  irq2 : IrqLine
  irq3 : IrqLine
  /-- The event trace (R15), newest event first (log 17). -/
  trace : List Event
  /-- MODEL: the time "now" of R292 and R297, in microseconds (log 7). -/
  now : Nat
  /-- MODEL: the moves already chosen for the agents, next first (log 3). -/
  agenda : List Move
  /-- MODEL: how many moves were taken; the argument of `Config.moveRound` and
  `Config.grantRound` (log 3, log 29). -/
  turn : Nat
  /-- MODEL: the requesters already drawn for the next grants, next first (log 29). -/
  grants : List Agent
  /-- MODEL: the PHY's answers already chosen, next first (log 1). -/
  phy : List Reply
  /-- MODEL: how many transactions were issued; the argument of `Config.freeReply` (log 1). -/
  draws : Nat
  /-- MODEL: the host's remaining program (R112; log 24). -/
  hostProg : List HostPrim
deriving DecidableEq, Repr

/-- No fault exists: no outcome and no failure stops the sequencer (R341), and no address faults
(R84). The type has no constructor, so no step can end in a fault (log 23). -/
inductive Fault where
deriving DecidableEq, Repr

/-- Why the model declines to give a next state. -/
inductive Refusal where
  /-- Raised by `exec`'s arm of a command that has no meaning yet; no arm does. Safe. -/
  | notModelled (mnemonic : String)
  /-- Raised by `configure` when it is given a configuration that R8 excludes: "a model refuses any
  other configuration". Safe. -/
  | illFormedConfiguration
deriving DecidableEq, Repr

/-- An interrupt line after reset, with its input at `level` (R59, R370). -/
def IrqLine.reset (level : Bool) : IrqLine :=
  { level := level, active := false, pending := false, attempts := 0, lastOk := false }

/-- The block right after reset, with the configuration `conf` and the interrupt inputs at
`level2` and `level3` (R370). The environment has chosen nothing yet. -/
def State.resetWith (conf : WfCfg) (level2 level3 : Bool) : State where
  conf := conf
  cmd := 0x0000#16
  argAddr := 0x0000#16
  argData := 0x0000#16
  result := 0x0000#16
  resultHi := 0x0000#16
  busy := false
  doneFlag := false
  cmdRefused := false
  cmdOverrun := false
  outcome := none
  refuseReason := .none
  monSample := 0x0000#16
  vco := { l0 := Config.vcoFactory, l1 := Config.vcoFactory, l2 := Config.vcoFactory,
           l3 := Config.vcoFactory }
  fsm := .idle
  reason := none
  target := none
  agent := .host
  inv := none
  lock := none
  hostCmd := none
  azCount := 0
  regcalCount := 0
  bound := false
  transportFault := false
  monArmed := false
  monDue := false
  monRef := 0
  monPeriod := conf.cfg.tMon
  irq2 := IrqLine.reset level2
  irq3 := IrqLine.reset level3
  trace := []
  now := 0
  agenda := []
  turn := 0
  grants := []
  phy := []
  draws := 0
  hostProg := []

/-- The machine right after reset: every OPEN parameter of its configuration and the levels of its
interrupt inputs are free values (R7, R59, R370). -/
def State.reset : State :=
  State.resetWith Config.deviceConf (Config.irqLevelAtReset .l2) (Config.irqLevelAtReset .l3)

end Sys2Proof.Machine
end

