-- ==== Sys2Proof/Machine/Operands.lean ====
section
/-! DEFINITION. Operand forms: the Bit-Field Utilities (spec/40_port_addressing R146), LaneIds
(spec/00_scope R14), the Lane Addressing Model (R147 to R149), the reset targets
(spec/41_reset_controller R170, R171), and small accessors of state by lane. -/

namespace Sys2Proof.Machine

/-! ## Bit-Field Utilities (R146) and the operators of R9, R10 -/

/-- R146: a bit is set. -/
def test (v : Word) (k : Nat) : Bool := v.getLsbD k

/-- R146: set the bits of a mask. -/
def set (v m : Word) : Word := v ||| m

/-- R146: clear the bits of a mask. -/
def clear (v m : Word) : Word := v &&& ~~~m

/-- R10: `1 << k`, the mask with only bit `k` set. -/
def bit (k : Nat) : Word := 1#16 <<< k

/-- R9: the field `v[hi:lo]`, zero-extended to 16 bits. -/
def field (v : Word) (hi lo : Nat) : Word := (v.extractLsb' lo (hi - lo + 1)).setWidth 16

/-- R9: the concatenation of two words, `a` in the high half. -/
def concat (a b : Word) : BitVec 32 := a ++ b

/-! ## Lanes (R14) -/

/-- R14: `idx` of a concrete lane. -/
def idx : Lane → Nat
  | .l0 => 0 | .l1 => 1 | .l2 => 2 | .l3 => 3

/-- R14: `lanes(L)`, in ascending order. -/
def lanes : LaneId → List Lane
  | .lane l => [l]
  | .allLanes => [.l0, .l1, .l2, .l3]

/-- The lane an interrupt line belongs to (R299). -/
def irqLaneOf : IrqLane → Lane
  | .l2 => .l2 | .l3 => .l3

/-- The agent of an interrupt line (R299). -/
def irqAgent : IrqLane → Agent
  | .l2 => .irq2 | .l3 => .irq3

/-! ## The Lane Addressing Model -/

/-- R147: a register family. -/
inductive Family where
  | perLane (base : Word)
  | aggregate (addr : Word)
deriving DecidableEq, Repr

/-- R148, R149: the address of a lane's instance, `base + i*0x100` on 16 bits. -/
def laneAddr (base : Word) (l : Lane) : Word := base + BitVec.ofNat 16 (idx l) * Config.laneStride

/-- R148: the addresses a family has for a LaneId. -/
def resolve (L : LaneId) : Family → List Word
  | .perLane base => (lanes L).map (laneAddr base)
  | .aggregate addr => [addr]

/-- R148: `addr(F, i)`, the single element of `resolve(Lane i, F)`. -/
def addrOf (F : Family) (l : Lane) : Word :=
  match F with
  | .perLane base => laneAddr base l
  | .aggregate addr => addr

/-! ## The families of R46 -/

def oscMan (c : Cfg) : Family := .perLane c.baseOscMan
def rxMain (c : Cfg) : Family := .perLane c.baseRxMain
def faCtrl (c : Cfg) : Family := .perLane c.baseFaCtrl
def txpllStat (c : Cfg) : Family := .perLane c.baseTxpllStat
def oscCode (c : Cfg) : Family := .perLane c.baseOscCode

/-- The families SA_OFS_j in the order j = 0 to 8. -/
def saOfs (c : Cfg) : List Family := c.baseSaOfs.map .perLane

/-- The family that REG_FA_START or REG_FA_CONT names (R7). -/
def faRegFamily (c : Cfg) : FaReg → Family
  | .faCtrl => faCtrl c
  | .oscMan => oscMan c
  | .rxMain => rxMain c

/-! ## Reset targets -/

/-- The domain of a DOM operand (R103). -/
def domainOf : ResetDomain → Domain
  | .rx => .rxRst | .txCore => .txcoreRst | .txPll => .txpllRst

/-- `LT[d]` (R170). -/
def laneTargetOf (c : Cfg) : Domain → LaneTarget
  | .rxRst => c.ltRxRst
  | .txcoreRst => c.ltTxcoreRst
  | .txpllRst => c.ltTxpllRst
  | .rxPd => c.ltRxPd
  | .lolDis => c.ltLolDis

/-- `AT[d]` (R170): the three reset domains are fixed bits of MRST. -/
def allTargetOf (c : Cfg) : Domain → AllTarget
  | .rxRst => .globalBit c.aMrst Config.mrstRxBit
  | .txcoreRst => .globalBit c.aMrst Config.mrstTxcoreBit
  | .txpllRst => .globalBit c.aMrst Config.mrstTxpllBit
  | .rxPd => c.atRxPd
  | .lolDis => c.atLolDis

/-- R171: the (address, mask) pair of a domain on a concrete lane. -/
def laneTargetPair (c : Cfg) (d : Domain) (l : Lane) : Word × Word :=
  match laneTargetOf c d with
  | .perLaneBit base k => (laneAddr base l, bit k)
  | .laneBits addr off => (addr, bit (idx l + off))

/-- R171: the (address, mask) pairs an operation touches, in order. -/
def targets (c : Cfg) (d : Domain) : LaneId → List (Word × Word)
  | .lane l => [laneTargetPair c d l]
  | .allLanes =>
    match allTargetOf c d with
    | .globalBit addr k => [(addr, bit k)]
    | .laneBitsAll addr off => [(addr, 0x000F#16 <<< off)]
    | .eachLane => [Lane.l0, .l1, .l2, .l3].map (laneTargetPair c d)

/-! ## Delays -/

/-- The length of a named delay in microseconds (R7, R375; log 6). Each is a parameter. -/
def durationOf (c : Cfg) : Delay → Nat
  | .tRxRst => c.tRxRst
  | .tAzPoll => c.tAzPoll
  | .tTxRestart => c.tTxRestart
  | .tFaShort => c.tFaShort
  | .tFaLong => c.tFaLong
  | .tToggle => c.tToggle
  | .tIrqRetry => c.tIrqRetry
  | .tRegcalPoll => c.tRegcalPoll

/-! ## The VCO trim cache and the interrupt lines by lane -/

/-- `st.vco[i]` (R53). -/
def vcoGet (t : VcoTable) : Lane → Word
  | .l0 => t.l0 | .l1 => t.l1 | .l2 => t.l2 | .l3 => t.l3

/-- `st.vco[i] <- v` (R53). -/
def vcoSet (t : VcoTable) (l : Lane) (v : Word) : VcoTable :=
  match l with
  | .l0 => { t with l0 := v }
  | .l1 => { t with l1 := v }
  | .l2 => { t with l2 := v }
  | .l3 => { t with l3 := v }

/-- The configuration record of a state. -/
abbrev cfgOf (s : State) : Cfg := s.conf.cfg

/-- The interrupt-retry state of a lane (R59). -/
def irqGet (s : State) : IrqLane → IrqLine
  | .l2 => s.irq2
  | .l3 => s.irq3

/-- Write the interrupt-retry state of a lane. -/
def irqSet (l : IrqLane) (x : IrqLine) (s : State) : State :=
  match l with
  | .l2 => { s with irq2 := x }
  | .l3 => { s with irq3 := x }

/-! ## Commands -/

/-- The name a command is recorded under (R142). -/
def kindOf : Instr → Kind
  | .probe => .probe
  | .detach => .detach
  | .regRead => .regRead
  | .regWrite => .regWrite
  | .assertRxReset _ => .assertRxReset
  | .deassertRxReset _ => .deassertRxReset
  | .assertTxCoreReset _ => .assertTxCoreReset
  | .deassertTxCoreReset _ => .deassertTxCoreReset
  | .assertTxPllReset _ => .assertTxPllReset
  | .deassertTxPllReset _ => .deassertTxPllReset
  | .assertRxPowerdown _ => .assertRxPowerdown
  | .deassertRxPowerdown _ => .deassertRxPowerdown
  | .disableLolMonitor _ => .disableLolMonitor
  | .toggleReset _ _ => .toggleReset
  | .runAutozero _ => .runAutozero
  | .runFreqPll _ => .runFreqPll
  | .txRestart _ => .txRestart
  | .recover _ => .recover

/-- The lane operand a command is recorded with, or none (R142). -/
def laneOperand : Instr → Option LaneId
  | .probe | .detach | .regRead | .regWrite => none
  | .assertRxReset L | .deassertRxReset L | .assertTxCoreReset L | .deassertTxCoreReset L
  | .assertTxPllReset L | .deassertTxPllReset L | .assertRxPowerdown L | .deassertRxPowerdown L
  | .disableLolMonitor L | .toggleReset _ L | .runAutozero L | .runFreqPll L | .recover L => some L
  | .txRestart l => some (.lane l)

/-- The "needs BOUND" column of R101. -/
def needsBound : Instr → Bool
  | .probe | .regRead | .regWrite => false
  | .detach | .assertRxReset _ | .deassertRxReset _ | .assertTxCoreReset _
  | .deassertTxCoreReset _ | .assertTxPllReset _ | .deassertTxPllReset _ | .assertRxPowerdown _
  | .deassertRxPowerdown _ | .disableLolMonitor _ | .toggleReset _ _ | .runAutozero _
  | .runFreqPll _ | .txRestart _ | .recover _ => true

end Sys2Proof.Machine
end

