-- ==== Sys2Proof/Machine/Flags.lean ====
section
/-! DEFINITION. The status words the host reads, computed from the state that holds their fields:
STATUS (spec/10_state R35), FSM (R36), MON_SAMPLE (R37), IRQ_STATUS (R39), and the codes of
spec/30_encoding R102, R108. -/

namespace Sys2Proof.Machine

/-- A flag as bit `k` of a word. -/
def flagAt (b : Bool) (k : Nat) : Word := if b then bit k else 0#16

/-- The outcome codes of R108. -/
def outcomeCode : RecoveryOutcome → BitVec 4
  | .success => 0x0
  | .autoZeroTimeout => 0x1
  | .txPllNotLocked => 0x2
  | .calibrationNotDone => 0x3
  | .efuseIncomplete => 0x4
  | .voltageRegNotComplete => 0x5
  | .invalidLane => 0x6
  | .transportError => 0x7
  | .deviceIdentityMismatch => 0x8
  | .regulatorCalibrationTimeout => 0x9

/-- An outcome field: 0xF while no outcome is available (R108). -/
def outcomeField : Option RecoveryOutcome → BitVec 4
  | none => 0xF
  | some o => outcomeCode o

/-- The refusal codes of R141. -/
def refuseCode : RefuseReason → BitVec 3
  | .none => 0
  | .reservedEncoding => 1
  | .notBound => 2
  | .alreadyBound => 3

/-- FSM.STATE (R36). -/
def fsmCode : Fsm → BitVec 3
  | .idle => 0
  | .resetAsserted => 1
  | .calibratingAZ => 2
  | .acquiringFrequency => 3
  | .lockTesting => 4
  | .locked => 5
  | .failed => 6

/-- FSM.TARGET: the lane code, 7 when there was no orchestrator invocation (R36). -/
def targetCode : Option LaneId → BitVec 3
  | none => 7
  | some L => codeOfLaneId L

/-- FSM.AGENT (R36); codes 2 and 3 are never produced (C15). -/
def agentCode : Agent → BitVec 2
  | .host => 0
  | .monitor => 1
  | .irq2 => 2
  | .irq3 => 3

/-- FSM.REASON: 0 after Locked, the code of `st.reason` after Failed, else 0xF (R36, R262). -/
def fsmReason (s : State) : BitVec 4 :=
  match s.fsm with
  | .locked => outcomeCode .success
  | .failed => outcomeField s.reason
  | .idle | .resetAsserted | .calibratingAZ | .acquiringFrequency | .lockTesting => 0xF

/-- STATUS (R35). -/
def statusWord (s : State) : Word :=
  flagAt s.busy 0 ||| flagAt s.doneFlag 1 ||| flagAt s.bound 2 ||| flagAt s.monArmed 3
    ||| flagAt s.transportFault 4 ||| flagAt s.cmdRefused 5 ||| flagAt s.cmdOverrun 6
    ||| (outcomeField s.outcome).setWidth 16 <<< 8 ||| (refuseCode s.refuseReason).setWidth 16 <<< 12

/-- FSM (R36). -/
def fsmWord (s : State) : Word :=
  (fsmCode s.fsm).setWidth 16 ||| (targetCode s.target).setWidth 16 <<< 4
    ||| (fsmReason s).setWidth 16 <<< 8 ||| (agentCode s.agent).setWidth 16 <<< 12

/-- IRQ_STATUS (R39): 0 where there is no interrupt retry (R301). -/
def irqStatusWord (s : State) : Word :=
  if (cfgOf s).hasIrqRetry then
    (BitVec.ofNat 4 s.irq2.attempts).setWidth 16 ||| (BitVec.ofNat 4 s.irq3.attempts).setWidth 16 <<< 4
      ||| flagAt s.irq2.active 8 ||| flagAt s.irq3.active 9
      ||| flagAt s.irq2.pending 10 ||| flagAt s.irq3.pending 11
      ||| flagAt s.irq2.lastOk 12 ||| flagAt s.irq3.lastOk 13
  else 0#16

/-- All four lock bits are clear (R295's `all`). -/
def noneLocked (b0 b1 b2 b3 : Bool) : Bool := !(b0 || b1 || b2 || b3)

/-- The MON_SAMPLE word of a completed sample (R295, R37). -/
def sampleWord (b0 b1 b2 b3 : Bool) : Word :=
  flagAt b0 0 ||| flagAt b1 1 ||| flagAt b2 2 ||| flagAt b3 3 ||| bit 4
    ||| flagAt (noneLocked b0 b1 b2 b3) 5

end Sys2Proof.Machine
end

