-- ==== Sys2Proof/Machine/Ops.lean ====
section
/-! DEFINITION. The shared operations: the trace, the Register Access Port (spec/20_memory), the
primitives a procedure is made of (spec/00_scope R11, R12, R16), one sequencer step of a procedure,
and how an invocation ends: `finish o` (spec/60_exceptions R338), which is the block's only trap
entry, and `raise TransportError` (R333). There is no return from a trap (R340). -/

namespace Sys2Proof.Machine

/-! ## Updates -/

/-- Append an event to the trace (R15). -/
def record (e : Event) (s : State) : State := { s with trace := e :: s.trace }

/-- `st.inv <- inv`. -/
def withInv (inv : Invocation) (s : State) : State := { s with inv := some inv }

/-- The sequencer's position moves to `p` in the invocation `inv`. -/
def goTo (p : Position) (inv : Invocation) (s : State) : State := withInv { inv with pos := p } s

/-- The sequencer becomes free (R338). -/
def release (s : State) : State := { s with lock := none, inv := none }

/-! ## The Register Access Port -/

/-- The PHY's answer to the next transaction: the next one chosen, or a free value (R71, R73). -/
def nextReply (s : State) : Reply :=
  match s.phy with
  | r :: _ => r
  | [] => Config.freeReply s.draws

/-- One transaction takes one answer (R74, R75). -/
def drawReply (s : State) : State := { s with phy := s.phy.tail, draws := s.draws + 1 }

/-- `MemRead(a, 2)` (R11, R71, R73): the value, or none when the transaction fails. -/
def memRead (a : Word) (s : State) : Option Word × State :=
  match nextReply s with
  | .ok v => (some v, record (.rd a v) (drawReply s))
  | .fail => (none, record (.rdFail a) (drawReply s))

/-- `MemWrite(a, 2, v)` (R11, R72, R73): whether the transaction completed. -/
def memWrite (a v : Word) (s : State) : Bool × State :=
  match nextReply s with
  | .ok _ => (true, record (.wr a v) (drawReply s))
  | .fail => (false, record (.wrFail a v) (drawReply s))

/-- `Wait(t)` (R12): the event, and at least the delay's length passes. -/
def waitFor (t : Delay) (s : State) : State :=
  record (.wait t) { s with now := s.now + durationOf (cfgOf s) t }

/-! ## Primitives of a procedure -/

/-- What a write computes from the value last read (R172, R173, R183, R203). -/
inductive Back where
  | setBits (m : Word)
  | clearBits (m : Word)
  | same
  | shiftRight8
deriving DecidableEq, Repr

/-- What a step does with the value it reads, up to the next primitive. -/
inductive Use where
  /-- Keep it in the local variable `v`. -/
  | keep
  /-- Discard it (R236). -/
  | discard
  /-- RESULT <- v (R144). -/
  | result
  /-- RESULT_HI <- hi (R290). -/
  | resultHi
  /-- RESULT <- lo, then compare the identifier (R290, R291). -/
  | identity
  /-- A lane of an auto-zero attempt that is not its last (R202); `first` says that it is its
  first. -/
  | azPoll (first : Bool)
  /-- The last lane of an auto-zero attempt (R202): how far the position moves when the attempt is
  done, and how far back the next attempt begins where no delay precedes it, 0 where one does. -/
  | azLast (first : Bool) (onDone back : Nat)
  /-- One read of the regulator-calibration poll (R264), with how far the position moves when it is
  done and when it is not. -/
  | regcal (onDone onRetry : Nat)
  /-- The lock test of bit `k` (R233). -/
  | lockTest (k : Nat)
  /-- The VCO trim update of a lane (R234). -/
  | vcoUpdate (l : Lane)
deriving DecidableEq, Repr

/-- What precedes a primitive in its step. -/
inductive Pre where
  | nothing
  /-- The start of RECOVER(L, ag), which passes through Idle to ResetAsserted (R262). -/
  | recoverStart (L : LaneId) (ag : Agent)
  /-- The next stage of RECOVER (R262). -/
  | stage (f : Fsm)
deriving DecidableEq, Repr

/-- What follows a completed write or a Wait in its step, before the next primitive (R16). -/
inductive Post where
  | nothing
  /-- st.azCount <- 0, then the first attempt's st.azCount <- st.azCount + 1 (R202). -/
  | azStart
  /-- The next auto-zero attempt: st.azCount <- st.azCount + 1 (R202). -/
  | azAttempt
  /-- st.regcalCount <- 0 (R264). -/
  | regcalStart
deriving DecidableEq, Repr

/-- The one primitive of a step (R16). A wait moves the position back by `back` after passing it. -/
inductive Act where
  | write (a v : Word)
  | writeVco (a : Word) (l : Lane)
  | writeBack (a : Word) (f : Back)
  | read (a : Word) (u : Use)
  | wait (t : Delay) (back : Nat)
deriving DecidableEq, Repr

/-- One primitive of a procedure with the updates that share its step. A procedure is a list of
these, fixed by the configuration and the operands (R88); `st.step` is an index in it (R43). -/
structure MicroOp where
  pre : Pre := .nothing
  act : Act
  post : Post := .nothing
deriving DecidableEq, Repr

/-- A procedure with no update beside the primitives. -/
def opOf (act : Act) : MicroOp := { act := act }

/-- `Wait(t)`, which is no step at all when its length is 0 (R12). -/
def waitOps (c : Cfg) (t : Delay) : List MicroOp :=
  if durationOf c t = 0 then [] else [opOf (.wait t 0)]

/-- A procedure whose first step does `p` first. -/
def withPre (p : Pre) : List MicroOp → List MicroOp
  | [] => []
  | op :: rest => { op with pre := p } :: rest

/-- The word a write-back writes. -/
def backValue (f : Back) (v : Word) : Word :=
  match f with
  | .setBits m => set v m
  | .clearBits m => clear v m
  | .same => v
  | .shiftRight8 => v >>> Config.azShift

/-- What precedes a primitive. -/
def applyPre (p : Pre) (s : State) : State :=
  match p with
  | .nothing => s
  | .recoverStart L ag =>
    { s with fsm := .resetAsserted, target := some L, agent := ag, reason := none }
  | .stage f => { s with fsm := f }

/-- R202: another auto-zero attempt begins. -/
def nextAttempt (s : State) : State := { s with azCount := s.azCount + 1 }

/-- What follows a completed write or a Wait. -/
def applyPost (p : Post) (s : State) : State :=
  match p with
  | .nothing => s
  | .azStart => nextAttempt { s with azCount := 0 }
  | .azAttempt => nextAttempt s
  | .regcalStart => { s with regcalCount := 0 }

/-- The word a VCO trim update stores for a code read: the field plus 5 on 16 bits (R234). -/
def trimOf (c : Cfg) (v : Word) : Word :=
  field v c.fOscCodeHi c.fOscCodeLo + Config.rxVcoCodeOffset

/-- After the last read of an auto-zero attempt at index `n` (R202), the position and the state: past
the poll when all lanes are done, the timeout at the 64th attempt, else the delay, or at once the
next attempt where the delay is no step. -/
def azNext (allDone : Bool) (onDone back n : Nat) (s : State) : Position × State :=
  if allDone then (.run (n + onDone), s)
  else if s.azCount = Config.azMaxAttempts then (.returned .autoZeroTimeout, s)
  else if back = 0 then (.run (n + 1), s)
  else (.run (n + 1 - back), nextAttempt s)

/-- The poll limit is reached (R264). -/
def limitReached (c : Cfg) (count : Nat) : Bool :=
  match c.regcalPollLimit with
  | none => false
  | some lim => decide (count = lim)

/-- Where a procedure goes after a primitive: `goTo`, or what its caller makes of the position. -/
abbrev Continuation := Position → Invocation → State → State

/-- Use the value `v` read by the primitive at index `n`, and go on by `go`. -/
def useValue (u : Use) (v : Word) (n : Nat) (inv : Invocation) (go : Continuation) (s : State) :
    State :=
  match u with
  | .keep => go (.run (n + 1)) { inv with v := v } s
  | .discard => go (.run (n + 1)) inv s
  | .result => go (.run (n + 1)) inv { s with result := v }
  | .resultHi => go (.run (n + 1)) { inv with v := v } { s with resultHi := v }
  | .identity =>
    go (if concat inv.v v = Config.productId then .run (n + 1) else .returned .deviceIdentityMismatch)
      inv { s with result := v }
  | .azPoll first =>
    go (.run (n + 1)) { inv with allDone := (first || inv.allDone) && test v Config.azDoneBit } s
  | .azLast first onDone back =>
    let d := (first || inv.allDone) && test v Config.azDoneBit
    go (azNext d onDone back n s).1 { inv with allDone := d } (azNext d onDone back n s).2
  | .regcal onDone onRetry =>
    let count := s.regcalCount + 1
    go (if test v (cfgOf s).bRegcal then .run (n + onDone)
        else if limitReached (cfgOf s) count then .returned .regulatorCalibrationTimeout
        else .run (n + onRetry)) inv { s with regcalCount := count }
  | .lockTest k => go (if test v k then .run (n + 1) else .returned .txPllNotLocked) inv s
  | .vcoUpdate l => go (.run (n + 1)) inv { s with vco := vcoSet s.vco l (trimOf (cfgOf s) v) }

/-- The word written by a writing primitive, none for the others. -/
def writtenWord (act : Act) (inv : Invocation) (s : State) : Option (Word × Word) :=
  match act with
  | .write a v => some (a, v)
  | .writeVco a l => some (a, vcoGet s.vco l)
  | .writeBack a f => some (a, backValue f inv.v)
  | .read _ _ | .wait _ _ => none

/-- One write transaction of a step, `fail` being what a failed transaction does. -/
def writeStep (a v : Word) (post : Post) (n : Nat) (inv : Invocation) (go : Continuation)
    (fail : State → State) (s : State) : State :=
  match memWrite a v s with
  | (true, s) => go (.run (n + 1)) inv (applyPost post s)
  | (false, s) => fail s

/-- One read transaction of a step. -/
def readStep (a : Word) (u : Use) (n : Nat) (inv : Invocation) (go : Continuation)
    (fail : State → State) (s : State) : State :=
  match memRead a s with
  | (some v, s) => useValue u v n inv go s
  | (none, s) => fail s

/-- R16: one sequencer step, the primitive at index `n` of the procedure with the updates before the
next one; `go` and `fail` say how the invocation goes on after it and after a failed transaction. -/
def perform (op : MicroOp) (n : Nat) (inv : Invocation) (go : Continuation) (fail : State → State)
    (s : State) : State :=
  let s := applyPre op.pre s
  match op.act with
  | .write a v => writeStep a v op.post n inv go fail s
  | .writeVco a l => writeStep a (vcoGet s.vco l) op.post n inv go fail s
  | .writeBack a f => writeStep a (backValue f inv.v) op.post n inv go fail s
  | .read a u => readStep a u n inv go fail s
  | .wait t back => go (.run (n + 1 - back)) inv (applyPost op.post (waitFor t s))

/-- The outcome with which a procedure is over at a position, none while a primitive is left. -/
def endOf (code : List MicroOp) : Position → Option RecoveryOutcome
  | .run n => if n < code.length then none else some .success
  | .returned o | .retried o => some o

/-! ## Ending an invocation -/

/-- The sticky record of a failed transaction (R333). -/
def setTransportFault (s : State) : State := { s with transportFault := true }

/-- `finish o` of a host command (R143, R338): the End event, OUTCOME, BUSY and DONE, and the
sequencer becomes free. Nothing else is saved or rolled back (R339). -/
def finishHost (c : Instr) (o : RecoveryOutcome) (s : State) : State :=
  release
    (record (.ended .host (kindOf c) (laneOperand c) o)
      { s with outcome := some o, busy := false, doneFlag := true, hostCmd := none })

/-- The end of RECOVER (R262's Locked and `fail`, R268). -/
def recoverEnd (o : RecoveryOutcome) (s : State) : State :=
  if o = .success then { s with fsm := .locked } else { s with fsm := .failed, reason := some o }

/-! ## Host commands -/

/-- R142: the host request gets the lock, with its latched operands; its procedure starts at its
first statement. A command that the host request does not hold takes the operands ARG_ADDR and
ARG_DATA hold now; no step does that (log 18). -/
def beginHost (c : Instr) (s : State) : State :=
  let args : Word × Word :=
    match s.hostCmd with
    | some h => if h.cmd = c then (h.addr, h.data) else (s.argAddr, s.argData)
    | none => (s.argAddr, s.argData)
  record (.began .host (kindOf c) (laneOperand c))
    { s with
      lock := some .host
      inv := some { proc := .command c args.1 args.2, pos := .run 0, v := 0#16, allDone := false } }

/-- The next step of a running host command: its next primitive, or, when its procedure has
returned, its final updates and `finish`. A failed transaction ends it in the same step (R333). -/
def hostAdvance (c : Instr) (code : Cfg → Word → Word → List MicroOp)
    (final : RecoveryOutcome → State → State) (addr data : Word) (inv : Invocation) (s : State) :
    State :=
  match inv.pos with
  | .run n =>
    match (code (cfgOf s) addr data)[n]? with
    | none => finishHost c .success (final .success s)
    | some op =>
      perform op n inv goTo
        (fun s => finishHost c .transportError (final .transportError (setTransportFault s))) s
  | .returned o => finishHost c o (final o s)
  | .retried o => finishHost c o (final o s)

/-- The running invocation's step, when it is the command `c`; any other command waits (R343). -/
def hostResume (c : Instr) (code : Cfg → Word → Word → List MicroOp)
    (final : RecoveryOutcome → State → State) (s : State) : State :=
  match s.inv with
  | some inv =>
    match inv.proc with
    | .command c' addr data => if c' = c then hostAdvance c code final addr data inv s else s
    | .tick _ | .irqRetry _ => s
  | none => s

/-- One sequencer step of the host command `c`: with the sequencer free, the command begins and
takes its first step (R142, R16; log 8); then one step at a time. -/
def runHost (c : Instr) (code : Cfg → Word → Word → List MicroOp)
    (final : RecoveryOutcome → State → State) (s : State) : Host.Outcome State Fault Refusal :=
  .next (hostResume c code final (match s.lock with | none => beginHost c s | some _ => s))

/-- A command with no final update of its own. -/
def noFinal (_ : RecoveryOutcome) (s : State) : State := s

end Sys2Proof.Machine
end

