-- ==== Sys2Proof/Machine/Attach.lean ====
section
/-! DEFINITION. Device identification, attach and detach (spec/45_monitor_probe R290 to R293). -/

namespace Sys2Proof.Machine

/-- R292: no burst is active or pending after attach. -/
def clearBurst (x : IrqLine) : IrqLine := { x with pending := false, active := false, attempts := 0 }

/-- R292: `attach()`. -/
def attach (s : State) : State :=
  let s := { s with
    bound := true, monArmed := true, monDue := false, monRef := s.now, monSample := 0x0000#16 }
  if (cfgOf s).hasIrqRetry then { s with irq2 := clearBurst s.irq2, irq3 := clearBurst s.irq3 } else s

/-- R290: the final step of PROBE binds the block when the identifier matched. -/
def probeFinal (o : RecoveryOutcome) (s : State) : State := if o = .success then attach s else s

/-- R290: read both identification registers. -/
def probeCode (_ : Cfg) (_addr _data : Word) : List MicroOp :=
  [opOf (.read Config.aIdHi .resultHi), opOf (.read Config.aIdLo .identity)]

/-- R293: DETACH issues no transaction. -/
def detachCode (_ : Cfg) (_addr _data : Word) : List MicroOp := []

/-- R293: DETACH's final step unbinds the block. -/
def detachFinal (_ : RecoveryOutcome) (s : State) : State := { s with bound := false }

/-- R293: what DETACH does when it is accepted. -/
def detachAccept (s : State) : State :=
  { s with
    monArmed := false
    monDue := false
    irq2 := { s.irq2 with pending := false }
    irq3 := { s.irq3 with pending := false } }

/-- PROBE (R290). -/
def execProbe (s : State) : Host.Outcome State Fault Refusal :=
  runHost .probe probeCode probeFinal s

/-- DETACH (R293). -/
def execDetach (s : State) : Host.Outcome State Fault Refusal :=
  runHost .detach detachCode detachFinal s

end Sys2Proof.Machine
end

