-- ==== Sys2Proof/Machine/HostIf.lean ====
section
/-! DEFINITION. The host interface: the host registers (spec/10_state R31 to R40), the acceptance and
refusal of a command request (spec/40_port_addressing R140, R141), and host programs
(spec/30_encoding R112, R113). -/

namespace Sys2Proof.Machine

/-- R141: `refuse(r)`. -/
def refuse (r : RefuseReason) (s : State) : State :=
  { s with cmdRefused := true, refuseReason := r, doneFlag := true }

/-- R140: the STATUS fields every request that is not an overrun clears first. -/
def clearRequest (s : State) : State :=
  { s with
    cmdOverrun := false, cmdRefused := false, refuseReason := .none, doneFlag := false,
    outcome := none }

/-- R140: the command is accepted and its operands are latched. -/
def accept (w : Word) (c : Instr) (s : State) : State :=
  let s := { s with
    cmd := w, hostCmd := some { cmd := c, addr := s.argAddr, data := s.argData }, busy := true }
  if c = .detach then detachAccept s else s

/-- R140: a request for a decoded command. -/
def request (w : Word) (c : Instr) (s : State) : State :=
  if c = .probe ∧ s.bound then refuse .alreadyBound s
  else if needsBound c ∧ ¬ s.bound then refuse .notBound s
  else accept w c s

/-- R140: a host write to CMD. -/
def cmdWrite (w : Word) (s : State) : State :=
  if s.busy then { s with cmdOverrun := true }
  else
    match decode w with
    | .error _ => refuse .reservedEncoding (clearRequest s)
    | .ok c => request w c (clearRequest s)

/-- R31 to R40: what a host read of an offset returns. -/
def hostRegister (off : BitVec 4) (s : State) : Word :=
  if off = 0x0 then s.cmd
  else if off = 0x1 then s.argAddr
  else if off = 0x2 then s.argData
  else if off = 0x3 then s.result
  else if off = 0x4 then s.resultHi
  else if off = 0x5 then statusWord s
  else if off = 0x6 then fsmWord s
  else if off = 0x7 then s.monSample
  else if off = 0x8 then s.vco.l0
  else if off = 0x9 then s.vco.l1
  else if off = 0xA then s.vco.l2
  else if off = 0xB then s.vco.l3
  else if off = 0xC then irqStatusWord s
  else 0x0000#16

/-- R32, R33, R40: the effect of a host write, after its event. A write to a read-only register or a
reserved offset is ignored. -/
def hostEffect (off : BitVec 4) (v : Word) (s : State) : State :=
  if off = 0x0 then cmdWrite v s
  else if off = 0x1 then { s with argAddr := v }
  else if off = 0x2 then { s with argData := v }
  else s

/-- One host write, one step (R31, R344). -/
def hostWrite (off : BitVec 4) (v : Word) (s : State) : State :=
  hostEffect off v (record (.hostWr off v) s)

/-- One host read, one step (R31, R344); it changes nothing but the trace. -/
def hostRead (off : BitVec 4) (s : State) : State := record (.hostRd off (hostRegister off s)) s

/-- R112: STATUS shows BUSY 0 and DONE 1. -/
def requestDone (s : State) : Bool := !s.busy && s.doneFlag

/-- R112: one host access of the host's program. WAIT_DONE reads STATUS until it is done. -/
def hostProgramStep (s : State) : State :=
  match s.hostProg with
  | [] => s
  | .hw off v :: rest => hostWrite off v { s with hostProg := rest }
  | .hr off :: rest => hostRead off { s with hostProg := rest }
  | .waitDone :: rest =>
    hostRead 0x5 (if requestDone s then { s with hostProg := rest } else s)

/-! The pseudo-instructions of R113. -/

/-- `DO form`. -/
def doCmd (i : Instr) : List HostPrim := [.hw 0x0 (encode i), .waitDone]

/-- `RD a`. -/
def rdPhy (a : Word) : List HostPrim := [.hw 0x1 a] ++ doCmd .regRead ++ [.hr 0x3]

/-- `WR a, v`. -/
def wrPhy (a v : Word) : List HostPrim := [.hw 0x1 a, .hw 0x2 v] ++ doCmd .regWrite

/-- `BRINGUP lane`. -/
def bringUp (L : LaneId) : List HostPrim := doCmd .probe ++ doCmd (.recover L)

end Sys2Proof.Machine
end

