-- ==== Sys2Proof/Machine/ResetController.lean ====
section
/-! DEFINITION. The Reset Controller (spec/41_reset_controller): the two generic sequences (R172,
R173), the toggle (R183), and its ten commands (R174 to R183). -/

namespace Sys2Proof.Machine

/-- R172: set the domain's bits, one read-modify-write for each target. -/
def assertSeq (c : Cfg) (d : Domain) (L : LaneId) : List MicroOp :=
  (targets c d L).flatMap fun t =>
    [opOf (.read t.1 .keep), opOf (.writeBack t.1 (.setBits t.2))]

/-- R173: clear the domain's bits. -/
def deassertSeq (c : Cfg) (d : Domain) (L : LaneId) : List MicroOp :=
  (targets c d L).flatMap fun t =>
    [opOf (.read t.1 .keep), opOf (.writeBack t.1 (.clearBits t.2))]

/-- R183: assert, settle, and write back the value read. -/
def toggleSeq (c : Cfg) (d : Domain) (L : LaneId) : List MicroOp :=
  (targets c d L).flatMap fun t =>
    [opOf (.read t.1 .keep), opOf (.writeBack t.1 (.setBits t.2))] ++ waitOps c .tToggle
      ++ [opOf (.writeBack t.1 .same)]

/-- R182: the loss-of-lock monitor disable, with its polarity. -/
def lolDisableSeq (c : Cfg) (L : LaneId) : List MicroOp :=
  if c.loldisSet then assertSeq c .lolDis L else deassertSeq c .lolDis L

/-- ASSERT_RX_RESET (R174). -/
def execAssertRxReset (L : LaneId) (s : State) : Host.Outcome State Fault Refusal :=
  runHost (.assertRxReset L) (fun c _ _ => assertSeq c .rxRst L) noFinal s

/-- DEASSERT_RX_RESET (R175). -/
def execDeassertRxReset (L : LaneId) (s : State) : Host.Outcome State Fault Refusal :=
  runHost (.deassertRxReset L) (fun c _ _ => deassertSeq c .rxRst L) noFinal s

/-- ASSERT_TX_CORE_RESET (R176). -/
def execAssertTxCoreReset (L : LaneId) (s : State) : Host.Outcome State Fault Refusal :=
  runHost (.assertTxCoreReset L) (fun c _ _ => assertSeq c .txcoreRst L) noFinal s

/-- DEASSERT_TX_CORE_RESET (R177). -/
def execDeassertTxCoreReset (L : LaneId) (s : State) : Host.Outcome State Fault Refusal :=
  runHost (.deassertTxCoreReset L) (fun c _ _ => deassertSeq c .txcoreRst L) noFinal s

/-- ASSERT_TX_PLL_RESET (R178). -/
def execAssertTxPllReset (L : LaneId) (s : State) : Host.Outcome State Fault Refusal :=
  runHost (.assertTxPllReset L) (fun c _ _ => assertSeq c .txpllRst L) noFinal s

/-- DEASSERT_TX_PLL_RESET (R179). -/
def execDeassertTxPllReset (L : LaneId) (s : State) : Host.Outcome State Fault Refusal :=
  runHost (.deassertTxPllReset L) (fun c _ _ => deassertSeq c .txpllRst L) noFinal s

/-- ASSERT_RX_POWERDOWN (R180). -/
def execAssertRxPowerdown (L : LaneId) (s : State) : Host.Outcome State Fault Refusal :=
  runHost (.assertRxPowerdown L) (fun c _ _ => assertSeq c .rxPd L) noFinal s

/-- DEASSERT_RX_POWERDOWN (R181). -/
def execDeassertRxPowerdown (L : LaneId) (s : State) : Host.Outcome State Fault Refusal :=
  runHost (.deassertRxPowerdown L) (fun c _ _ => deassertSeq c .rxPd L) noFinal s

/-- DISABLE_LOL_MONITOR (R182). -/
def execDisableLolMonitor (L : LaneId) (s : State) : Host.Outcome State Fault Refusal :=
  runHost (.disableLolMonitor L) (fun c _ _ => lolDisableSeq c L) noFinal s

/-- TOGGLE_RESET (R183). -/
def execToggleReset (d : ResetDomain) (L : LaneId) (s : State) :
    Host.Outcome State Fault Refusal :=
  runHost (.toggleReset d L) (fun c _ _ => toggleSeq c (domainOf d) L) noFinal s

end Sys2Proof.Machine
end

