-- ==== Sys2Proof/Machine/FreqPll.lean ====
section
/-! DEFINITION. The Frequency Acquisition & PLL Lock Stage (spec/43_freq_pll R230 to R237) and the
commands RUN_FREQ_PLL (R238) and TX_RESTART (R239). -/

namespace Sys2Proof.Machine

/-- R230: the frequency-acquisition literal sequence. -/
def faSeq (c : Cfg) (L : LaneId) : List MicroOp :=
  (lanes L).map (fun l => opOf (.write (addrOf (faCtrl c) l) c.patFaEnable))
    ++ (lanes L).map (fun l => opOf (.write (addrOf (faRegFamily c c.regFaStart) l) c.patFaStart))
    ++ waitOps c .tFaShort
    ++ (lanes L).map (fun l => opOf (.write (addrOf (faRegFamily c c.regFaCont) l) c.patFaCont))
    ++ waitOps c .tFaLong
    ++ (lanes L).map (fun l => opOf (.write (addrOf (oscMan c) l) c.patOscFinal))

/-- R231: the TX restart sub-sequence of one lane. -/
def txRestartSeq (c : Cfg) (l : Lane) : List MicroOp :=
  assertSeq c .txcoreRst (.lane l)
    ++ assertSeq c .txpllRst (.lane l)
    ++ deassertSeq c .txpllRst (.lane l)
    ++ waitOps c .tTxRestart
    ++ deassertSeq c .txcoreRst (.lane l)

/-- R232: restart the TX PLL. -/
def pllRestart (c : Cfg) : LaneId → List MicroOp
  | .allLanes => assertSeq c .txpllRst .allLanes ++ deassertSeq c .txpllRst .allLanes
  | .lane l => txRestartSeq c l

/-- R233: test PLL lock, one read. -/
def lockTestSeq (c : Cfg) : LaneId → List MicroOp
  | .allLanes => [opOf (.read c.aAggLock (.lockTest c.bAggLock))]
  | .lane l => [opOf (.read (addrOf (txpllStat c) l) (.lockTest c.bLock))]

/-- R234: update the VCO trim cache. -/
def vcoUpdateSeq (c : Cfg) (L : LaneId) : List MicroOp :=
  (lanes L).map fun l => opOf (.read (addrOf (oscCode c) l) (.vcoUpdate l))

/-- R235: release the TX core and, for AllLanes, enable TX output. -/
def txEnableSeq (c : Cfg) : LaneId → List MicroOp
  | .allLanes =>
    deassertSeq c .txcoreRst .allLanes
      ++ [opOf (.read c.aAggLaneCtrl .keep), opOf (.writeBack c.aAggLaneCtrl (.clearBits (bit c.bTxen)))]
  | .lane l => deassertSeq c .txcoreRst (.lane l)

/-- R236: reset the ingress FIFO and clear the stale status flags. -/
def fifoFlushSeq (c : Cfg) : List MicroOp :=
  [opOf (.write c.aFifo c.patFifoAssert), opOf (.write c.aFifo c.patFifoClear),
    opOf (.read c.aLol .discard), opOf (.read c.aLos .discard)]

/-- R237: `ACQ(L)`. -/
def acqCode (c : Cfg) (L : LaneId) : List MicroOp := faSeq c L ++ pllRestart c L

/-- R237: `LOCK(L)`. -/
def lockCode (c : Cfg) (L : LaneId) : List MicroOp :=
  lockTestSeq c L ++ vcoUpdateSeq c L ++ txEnableSeq c L ++ fifoFlushSeq c

/-- R237: `FP(L)`. -/
def fpCode (c : Cfg) (L : LaneId) : List MicroOp := acqCode c L ++ lockCode c L

/-- RUN_FREQ_PLL (R238). -/
def execRunFreqPll (L : LaneId) (s : State) : Host.Outcome State Fault Refusal :=
  runHost (.runFreqPll L) (fun c _ _ => fpCode c L) noFinal s

/-- TX_RESTART (R239). -/
def execTxRestart (l : Lane) (s : State) : Host.Outcome State Fault Refusal :=
  runHost (.txRestart l) (fun c _ _ => txRestartSeq c l) noFinal s

end Sys2Proof.Machine
end

