-- ==== Sys2Proof/Machine/Irq.lean ====
section
/-! DEFINITION. The interrupt retry of variant 2 (spec/45_monitor_probe R299 to R301): the edge
detectors and the attempts of the agents Irq2 and Irq3. -/

namespace Sys2Proof.Machine

/-- `st.hostCmd` is DETACH (R299, R300). -/
def detachAccepted (s : State) : Bool :=
  match s.hostCmd with
  | some h => decide (h.cmd = .detach)
  | none => false

/-- R299: what a falling edge does to a line that accepts it. -/
def edgeTaken (x : IrqLine) : IrqLine :=
  if x.active then { x with pending := true } else { x with active := true, attempts := 0 }

/-- R299: the detector of lane `l` samples its input. -/
def irqSample (l : IrqLane) (level : Bool) (s : State) : State :=
  if (cfgOf s).hasIrqRetry then
    let x := { irqGet s l with level := level }
    if !level && (irqGet s l).level && s.bound && !detachAccepted s then irqSet l (edgeTaken x) s
    else irqSet l x s
  else s

/-- R300: `endBurst(l, ok)`. A pending edge starts the next burst at once. -/
def burstEnded (ok : Bool) (x : IrqLine) : IrqLine :=
  if x.pending then { x with lastOk := ok, pending := false, active := true, attempts := 0 }
  else { x with lastOk := ok, active := false }

/-- R300: `endBurst(l, ok)`. -/
def endBurst (l : IrqLane) (ok : Bool) (s : State) : State :=
  irqSet l (burstEnded ok (irqGet s l)) s

/-- R300, R342: lane `l` requests an attempt. -/
def irqRequests (l : IrqLane) (s : State) : Bool :=
  (irqGet s l).active && (cfgOf s).hasIrqRetry

/-- R300: an attempt begins. -/
def beginAttempt (l : IrqLane) (s : State) : State :=
  let x := irqGet s l
  record (.began (irqAgent l) .irqRetry (some (.lane (irqLaneOf l))))
    (irqSet l { x with attempts := x.attempts + 1 }
      { s with
        lock := some (irqAgent l)
        inv := some { proc := .irqRetry l, pos := .run 0, v := 0#16, allDone := false } })

/-- R300: an attempt ends with outcome `o`. -/
def endAttempt (l : IrqLane) (o : RecoveryOutcome) (s : State) : State :=
  let s := release (record (.ended (irqAgent l) .irqRetry (some (.lane (irqLaneOf l))) o) s)
  if o = .success then endBurst l true s
  else if (irqGet s l).attempts = Config.irqMaxAttempts then endBurst l false s
  else s

/-- R300: where an attempt's FP goes after a primitive: when it returns a failure, the Log event is
appended in that step (R16). -/
def attemptGoes (l : IrqLane) (p : Position) (inv : Invocation) (s : State) : State :=
  match p with
  | .returned o => goTo p inv (record (.logged (irqAgent l) (some (.lane (irqLaneOf l))) o) s)
  | .run _ | .retried _ => goTo p inv s

/-- R300: an attempt whose FP has returned: the retry delay after a failure where another attempt
remains and the delay is a step (R12), else the attempt's end. -/
def attemptReturned (l : IrqLane) (o : RecoveryOutcome) (inv : Invocation) (s : State) : State :=
  if o ≠ .success ∧ (irqGet s l).attempts < Config.irqMaxAttempts
      ∧ durationOf (cfgOf s) .tIrqRetry ≠ 0 then
    goTo (.retried o) inv (waitFor .tIrqRetry s)
  else endAttempt l o s

/-- One sequencer step of an attempt: `FP(Lane l)` (R237), its delay, its end. A failed transaction
makes FP return TransportError (R333). -/
def attemptStep (l : IrqLane) (inv : Invocation) (s : State) : State :=
  match inv.pos with
  | .run n =>
    match (fpCode (cfgOf s) (.lane (irqLaneOf l)))[n]? with
    | none => endAttempt l .success s
    | some op =>
      perform op n inv (attemptGoes l)
        (fun s => attemptGoes l (.returned .transportError) inv (setTransportFault s)) s
  | .returned o => attemptReturned l o inv s
  | .retried o => endAttempt l o s

/-- R300: the sequencer is granted to lane `l`'s retry: the burst ends without an attempt when the
block is unbound or DETACH is accepted; else an attempt begins with its first primitive. -/
def grantIrq (l : IrqLane) (s : State) : State :=
  if !s.bound || detachAccepted s then endBurst l false s
  else
    let s := beginAttempt l s
    match s.inv with
    | some inv => attemptStep l inv s
    | none => s

end Sys2Proof.Machine
end

