-- ==== Sys2Proof/Machine/AutoZero.lean ====
section
/-! DEFINITION. The Auto-Zero Calibration Stage `AZ(L)` (spec/42_autozero R201 to R204) and the
command RUN_AUTOZERO (R200). -/

namespace Sys2Proof.Machine

/-- R201 step 5: both trigger patterns to one lane before the next; the last write is followed by
R202's first assignments to `st.azCount`. -/
def azTrigger (c : Cfg) : List Lane → List MicroOp
  | [] => []
  | [l] =>
    [opOf (.write (addrOf (rxMain c) l) Config.patAzTrig1),
      { act := .write (addrOf (rxMain c) l) Config.patAzTrig2, post := .azStart }]
  | l :: ls =>
    opOf (.write (addrOf (rxMain c) l) Config.patAzTrig1)
      :: opOf (.write (addrOf (rxMain c) l) Config.patAzTrig2) :: azTrigger c ls

/-- R202: the reads of one attempt, every targeted lane in order. -/
def azReads (c : Cfg) (onDone back : Nat) (first : Bool) : List Lane → List MicroOp
  | [] => []
  | [l] => [opOf (.read (addrOf (rxMain c) l) (.azLast first onDone back))]
  | l :: ls =>
    opOf (.read (addrOf (rxMain c) l) (.azPoll first)) :: azReads c onDone back false ls

/-- R202: the bounded poll. The delay leads back to the attempt's first read; where it is no step
(R12), the attempt's last read does. -/
def azPollSeq (c : Cfg) (L : LaneId) : List MicroOp :=
  if durationOf c .tAzPoll = 0 then azReads c 1 (lanes L).length true (lanes L)
  else
    azReads c 2 0 true (lanes L)
      ++ [{ act := .wait .tAzPoll ((lanes L).length + 1), post := .azAttempt }]

/-- R203: the nine snapshots of a lane, each a read and the write of it shifted right by 8. -/
def azSnapshot (c : Cfg) (l : Lane) : List MicroOp :=
  (saOfs c).flatMap fun f =>
    [opOf (.read (addrOf f l) .keep), opOf (.writeBack (addrOf f l) .shiftRight8)]

/-- R201 steps 1 to 5. -/
def azArm (c : Cfg) (L : LaneId) : List MicroOp :=
  (lanes L).map (fun l => opOf (.writeVco (addrOf (oscMan c) l) l))
    ++ (lanes L).map (fun l => opOf (.write (addrOf (rxMain c) l) Config.patAzArm))
    ++ [opOf (.write c.aSaOvrEn Config.patSaOvrOff)]
    ++ deassertSeq c .rxRst L
    ++ azTrigger c (lanes L)

/-- R203: step 7. -/
def azFinish (c : Cfg) (L : LaneId) : List MicroOp :=
  (lanes L).flatMap (azSnapshot c) ++ [opOf (.write c.aSaOvrEn Config.patSaOvrOn)]

/-- `AZ(L)` (R201 to R204). -/
def azCode (c : Cfg) (L : LaneId) : List MicroOp := azArm c L ++ azPollSeq c L ++ azFinish c L

/-- RUN_AUTOZERO (R200). -/
def execRunAutozero (L : LaneId) (s : State) : Host.Outcome State Fault Refusal :=
  runHost (.runAutozero L) (fun c _ _ => azCode c L) noFinal s

end Sys2Proof.Machine
end

