-- ==== Sys2Proof/Machine/Orchestrator.lean ====
section
/-! DEFINITION. The Lane Recovery Orchestrator (spec/44_orchestrator): `RA(L)` (R263, R264),
`RECOVER(L, ag)` (R262) and the command RECOVER (R261). -/

namespace Sys2Proof.Machine

/-- R263 and R264: ResetAsserted. The regulator-calibration poll repeats its read, after its delay
where that is not 0. -/
def raCode (c : Cfg) : LaneId → List MicroOp
  | .lane l => assertSeq c .rxRst (.lane l) ++ waitOps c .tRxRst
  | .allLanes =>
    { act := .write c.aMrst Config.patAllReset, post := .regcalStart }
      :: (if durationOf c .tRegcalPoll = 0 then [opOf (.read c.aRegcal (.regcal 1 0))]
          else [opOf (.read c.aRegcal (.regcal 2 1)), opOf (.wait .tRegcalPoll 2)])

/-- R262: `RECOVER(L, ag)` after its Begin event. Each assignment to `st.fsm` is made in the step of the next stage's
first transaction. -/
def recoverCode (c : Cfg) (L : LaneId) (ag : Agent) : List MicroOp :=
  withPre (.recoverStart L ag) (raCode c L)
    ++ withPre (.stage .calibratingAZ) (azCode c L)
    ++ withPre (.stage .acquiringFrequency) (acqCode c L)
    ++ withPre (.stage .lockTesting) (lockCode c L)

/-- RECOVER (R261). -/
def execRecover (L : LaneId) (s : State) : Host.Outcome State Fault Refusal :=
  runHost (.recover L) (fun c _ _ => recoverCode c L .host) recoverEnd s

end Sys2Proof.Machine
end

