-- ==== Sys2Proof/Machine/Monitor.lean ====
section
/-! DEFINITION. The Lock Monitor (spec/45_monitor_probe R294 to R298): its timer and its tick, an
invocation of the agent Monitor that runs RECOVER as a procedure of its own. -/

namespace Sys2Proof.Machine

/-- R294: the timer may make a tick due: armed, none due, none running, and T_MON has elapsed. -/
def timerEnabled (s : State) : Bool :=
  s.monArmed && !s.monDue && decide (s.lock ≠ some .monitor) && decide (s.monRef + s.monPeriod ≤ s.now)

/-- R294: a tick becomes due. -/
def timerStep (s : State) : State := if timerEnabled s then { s with monDue := true } else s

/-- R295: the lock is granted to a due tick. -/
def beginTick (s : State) : State :=
  record (.began .monitor .tick none)
    { s with
      monDue := false
      lock := some .monitor
      inv := some { proc := .tick (.sample []), pos := .run 0, v := 0#16, allDone := false } }

/-- R295, R297: the tick ends with outcome `o` and the next one is counted from now. -/
def endTick (o : RecoveryOutcome) (s : State) : State :=
  release (record (.ended .monitor .tick none o) { s with monRef := s.now })

/-- R295: a sampling read failed: no recovery runs. -/
def sampleFailed (s : State) : State :=
  endTick .transportError (record (.logged .monitor none .transportError) (setTransportFault s))

/-- R295: the tick moves to another phase, at the start of its procedure. -/
def toPhase (p : TickPhase) (inv : Invocation) (s : State) : State :=
  withInv { inv with proc := .tick p, pos := .run 0 } s

/-- R296: the recoveries a sample selects: AllLanes alone when no lane is locked, else each lane
that is not. -/
def recoveriesOf (b0 b1 b2 b3 : Bool) : List LaneId :=
  if noneLocked b0 b1 b2 b3 then [.allLanes]
  else
    (if b0 then [] else [.lane .l0]) ++ (if b1 then [] else [.lane .l1])
      ++ (if b2 then [] else [.lane .l2]) ++ (if b3 then [] else [.lane .l3])

/-- R296: the next recovery among those left: the drawn lane where it is one of them. -/
def pickRecovery (next : Lane) : List LaneId → LaneId
  | [] => .lane next
  | L :: rest => if .lane next ∈ L :: rest then .lane next else L

/-- R295, R262: the tick goes on to the recoveries left, in the step of the primitive before: the next
one is drawn and its Begin event appended; with none left the tick's final step is next. -/
def chooseNext (next : Lane) (left : List LaneId) (inv : Invocation) (s : State) : State :=
  match left with
  | [] => toPhase .finish inv s
  | _ =>
    let L := pickRecovery next left
    toPhase (.recover L (left.erase L)) inv (record (.began .monitor .recover (some L)) s)

/-- R295: one more lock bit is sampled; the fourth completes the sample and selects the
recoveries. -/
def sampleTaken (next : Lane) (taken : List Bool) (b : Bool) (inv : Invocation) (s : State) : State :=
  match taken with
  | [b0, b1, b2] =>
    chooseNext next (recoveriesOf b0 b1 b2 b) inv { s with monSample := sampleWord b0 b1 b2 b }
  | _ => toPhase (.sample (taken ++ [b])) inv s

/-- The lane whose bit the next sampling read is of (R295). -/
def sampleLane : Nat → Lane
  | 0 => .l0 | 1 => .l1 | 2 => .l2 | _ => .l3

/-- R295: one sampling read. -/
def sampleStep (next : Lane) (taken : List Bool) (inv : Invocation) (s : State) : State :=
  match memRead (addrOf (txpllStat (cfgOf s)) (sampleLane taken.length)) s with
  | (some v, s) => sampleTaken next taken (test v (cfgOf s).bLock) inv s
  | (none, s) => sampleFailed s

/-- R262, R295, R298: RECOVER(L, Monitor) has returned `o`: its last updates and End event, and a Log
event for a failure. -/
def recoveryReturned (o : RecoveryOutcome) (L : LaneId) (s : State) : State :=
  let s := record (.ended .monitor .recover (some L) o) (recoverEnd o s)
  if o = .success then s else record (.logged .monitor (some L) o) s

/-- R295: RECOVER(L, Monitor) is over with `o`: the tick goes on to the recoveries left, or ends. -/
def recoveryOver (next : Lane) (L : LaneId) (left : List LaneId) (o : RecoveryOutcome)
    (inv : Invocation) (s : State) : State :=
  match left with
  | [] => endTick .success (recoveryReturned o L s)
  | _ => chooseNext next left inv (recoveryReturned o L s)

/-- R16: where RECOVER(L, Monitor) goes after a primitive. When that was its last one and another
recovery is left, its end shares the step; with none left its end is part of the tick's final
step (log 10). -/
def recoveryGoes (next : Lane) (L : LaneId) (left : List LaneId) (code : List MicroOp)
    (p : Position) (inv : Invocation) (s : State) : State :=
  match endOf code p with
  | none => goTo p inv s
  | some o => if left = [] then goTo p inv s else recoveryOver next L left o inv s

/-- R333: a failed transaction ends RECOVER(L, Monitor) in that step, and the tick goes on. -/
def recoveryFailed (next : Lane) (L : LaneId) (left : List LaneId) (inv : Invocation) (s : State) :
    State :=
  chooseNext next left inv (recoveryReturned .transportError L (setTransportFault s))

/-- One step of RECOVER(L, Monitor) inside the tick: its next primitive; or, when it is over, the
tick's final step with the recovery's end. -/
def recoveryStep (next : Lane) (L : LaneId) (left : List LaneId) (inv : Invocation) (s : State) :
    State :=
  let code := recoverCode (cfgOf s) L .monitor
  match inv.pos with
  | .run n =>
    match code[n]? with
    | none => recoveryOver next L left .success inv s
    | some op =>
      perform op n inv (recoveryGoes next L left code) (recoveryFailed next L left inv) s
  | .returned o => recoveryOver next L left o inv s
  | .retried o => recoveryOver next L left o inv s

/-- One sequencer step of a tick; `next` is the draw of R296. -/
def tickStep (next : Lane) (phase : TickPhase) (inv : Invocation) (s : State) : State :=
  match phase with
  | .sample taken => sampleStep next taken inv s
  | .recover L left => recoveryStep next L left inv s
  | .finish => endTick .success s

end Sys2Proof.Machine
end

