-- ==== Sys2Proof/Machine/Agents.lean ====
section
/-! DEFINITION. The agents of the block (spec/10_state R30) and the arbitration of the sequencer
(spec/60_exceptions R342, R343). `run` is the meaning of the commands, `exec` of Dispatch.lean. -/

namespace Sys2Proof.Machine

/-- The moves ahead: those of the agenda or, when it is used up, the next round of free values, in
which the sequencer moves (R30; log 3). -/
def movesAhead (s : State) : List Move :=
  match s.agenda with
  | [] => Config.moveRound s.turn
  | ms => ms

/-- The next move. -/
def nextMove (s : State) : Move := (movesAhead s).headD (.sequencer .l0)

/-- A step takes one move. -/
def takeTurn (s : State) : State := { s with agenda := (movesAhead s).tail, turn := s.turn + 1 }

/-- R342: the request of each of the four requesters. -/
def requests (s : State) : Agent → Bool
  | .host => s.hostCmd.isSome
  | .monitor => s.monDue
  | .irq2 => irqRequests .l2 s
  | .irq3 => irqRequests .l3 s

/-- The first of some draws that names a pending requester, and the draws after it. -/
def firstRequest (s : State) : List Agent → Option (Agent × List Agent)
  | [] => none
  | a :: rest => if requests s a then some (a, rest) else firstRequest s rest

/-- R343: the requester that a free sequencer grants, and the draws left: the first pending one among
the draws made or, when they name none, of a new round, which names every requester. None when
nothing is pending (log 29). -/
def grantChoice (s : State) : Option (Agent × List Agent) :=
  match firstRequest s s.grants with
  | some r => some r
  | none => firstRequest s (Config.grantRound s.turn)

/-- R142, R295, R300: the sequencer is granted to a requester, whose invocation begins. -/
def grantTo (run : Instr → State → Host.Outcome State Fault Refusal) (who : Agent) (next : Lane)
    (s : State) : Host.Outcome State Fault Refusal :=
  match who with
  | .host =>
    match s.hostCmd with
    | some h => run h.cmd s
    | none => .next s
  | .monitor =>
    .next (tickStep next (.sample [])
      { proc := .tick (.sample []), pos := .run 0, v := 0#16, allDone := false } (beginTick s))
  | .irq2 => .next (grantIrq .l2 s)
  | .irq3 => .next (grantIrq .l3 s)

/-- R343: a free sequencer grants one of the pending requests, if there is one. -/
def grant (run : Instr → State → Host.Outcome State Fault Refusal) (next : Lane) (s : State) :
    Host.Outcome State Fault Refusal :=
  match grantChoice s with
  | none => .next s
  | some (who, rest) => grantTo run who next { s with grants := rest }

/-- One step of the invocation that holds the sequencer (R16). -/
def resume (run : Instr → State → Host.Outcome State Fault Refusal) (next : Lane) (s : State) :
    Host.Outcome State Fault Refusal :=
  match s.inv with
  | none => .next s
  | some inv =>
    match inv.proc with
    | .command c _ _ => run c s
    | .tick phase => .next (tickStep next phase inv s)
    | .irqRetry l => .next (attemptStep l inv s)

/-- One move of the sequencer (R16, R343). -/
def sequencerMove (run : Instr → State → Host.Outcome State Fault Refusal) (next : Lane)
    (s : State) : Host.Outcome State Fault Refusal :=
  match s.lock with
  | none => grant run next s
  | some _ => resume run next s

/-- R370: reset is applied with the interrupt inputs at the given levels. The environment's own
fields and the configuration stay (log 14). -/
def applyReset (level2 level3 : Bool) (s : State) : State :=
  { State.resetWith s.conf level2 level3 with
    now := s.now
    agenda := s.agenda
    turn := s.turn
    grants := s.grants
    phy := s.phy
    draws := s.draws
    hostProg := s.hostProg }

/-- The step of the agent that moves (R30). -/
def takeMove (run : Instr → State → Host.Outcome State Fault Refusal) (m : Move) (s : State) :
    Host.Outcome State Fault Refusal :=
  match m with
  | .sequencer next => sequencerMove run next s
  | .hostWrite off v => .next (hostWrite off v s)
  | .hostRead off => .next (hostRead off s)
  | .hostProgram => .next (hostProgramStep s)
  | .timer => .next (timerStep s)
  | .irqSample l level => .next (irqSample l level s)
  | .elapse us => .next { s with now := s.now + us }
  | .reset level2 level3 => .next (applyReset level2 level3 s)

/-- R8, R373: the block is given a configuration; an ill-formed one is refused. -/
def configure (c : Cfg) (level2 level3 : Bool) : Host.Outcome State Fault Refusal :=
  if h : c.wellFormed = true then .next (State.resetWith ⟨c, h⟩ level2 level3)
  else .refused .illFormedConfiguration

/-- The word `w` placed where the sequencer fetches its next command, with the sequencer free, its
move next and the host drawn for the grant (log 15). A legal word stands as the accepted host command (R140), with the STATUS fields
acceptance leaves. A reserved encoding is never accepted, so it stands as the host's next CMD write. -/
def placeWord (w : Word) (s : State) : State :=
  match decode w with
  | .ok c =>
    { accept w c (clearRequest s) with
      lock := none
      inv := none
      grants := .host :: s.grants
      agenda := .sequencer .l0 :: s.agenda }
  | .error _ => { s with busy := false, agenda := .hostWrite 0x0 w :: s.agenda }

end Sys2Proof.Machine
end

