-- ==== Sys2Proof/Machine/Port.lean ====
section
/-! DEFINITION. The Register Access Port commands (spec/40_port_addressing R144, R145). -/

namespace Sys2Proof.Machine

/-- R144: `v <- MemRead(a, 2); RESULT <- v`. -/
def regReadCode (_ : Cfg) (addr _data : Word) : List MicroOp := [opOf (.read addr .result)]

/-- R145: `MemWrite(a, 2, v)`. -/
def regWriteCode (_ : Cfg) (addr data : Word) : List MicroOp := [opOf (.write addr data)]

/-- REG_READ (R144). -/
def execRegRead (s : State) : Host.Outcome State Fault Refusal :=
  runHost .regRead regReadCode noFinal s

/-- REG_WRITE (R145). -/
def execRegWrite (s : State) : Host.Outcome State Fault Refusal :=
  runHost .regWrite regWriteCode noFinal s

end Sys2Proof.Machine
end

