-- ==== Sys2Proof/Machine/Dispatch.lean ====
section
/-! DEFINITION. The meaning of every command: one sequencer step of it (spec/00_scope R16). -/

namespace Sys2Proof.Machine

def exec (i : Instr) (s : State) : Host.Outcome State Fault Refusal :=
  match i with
  | .probe => Sys2Proof.Machine.execProbe s
  | .detach => Sys2Proof.Machine.execDetach s
  | .regRead => Sys2Proof.Machine.execRegRead s
  | .regWrite => Sys2Proof.Machine.execRegWrite s
  | .assertRxReset L => Sys2Proof.Machine.execAssertRxReset L s
  | .deassertRxReset L => Sys2Proof.Machine.execDeassertRxReset L s
  | .assertTxCoreReset L => Sys2Proof.Machine.execAssertTxCoreReset L s
  | .deassertTxCoreReset L => Sys2Proof.Machine.execDeassertTxCoreReset L s
  | .assertTxPllReset L => Sys2Proof.Machine.execAssertTxPllReset L s
  | .deassertTxPllReset L => Sys2Proof.Machine.execDeassertTxPllReset L s
  | .assertRxPowerdown L => Sys2Proof.Machine.execAssertRxPowerdown L s
  | .deassertRxPowerdown L => Sys2Proof.Machine.execDeassertRxPowerdown L s
  | .disableLolMonitor L => Sys2Proof.Machine.execDisableLolMonitor L s
  | .toggleReset d L => Sys2Proof.Machine.execToggleReset d L s
  | .runAutozero L => Sys2Proof.Machine.execRunAutozero L s
  | .runFreqPll L => Sys2Proof.Machine.execRunFreqPll L s
  | .txRestart l => Sys2Proof.Machine.execTxRestart l s
  | .recover L => Sys2Proof.Machine.execRecover L s

end Sys2Proof.Machine
end

