-- ==== Sys2Proof/Machine/Step.lean ====
section
/-! DEFINITION. One step of the machine: the next move of the agenda, taken by its agent
(spec/10_state R30), and where a command stands to be fetched. -/

namespace Sys2Proof.Machine

/-- One step: the next move is taken. -/
def step (s : State) : Host.Outcome State Fault Refusal := takeMove exec (nextMove s) (takeTurn s)

/-- The state with an instruction of `nbits` bits and value `w` placed where the next step fetches it
(log 15). -/
def State.withFetchWord (s : State) (nbits w : Nat) : State :=
  placeWord (BitVec.ofNat 16 (w % 2 ^ nbits)) s

end Sys2Proof.Machine
end

