-- ==== Sys2Proof/Safety.lean ====
section
/-! DEFINITION. The terms claims use: runs of `exec` and of `step`, the answers a run draws, the
procedure of each command, the well-formed states and traces, a quiet block, and a reference in the
spec's own pseudocode for what a whole command does. -/

namespace Sys2Proof.Machine

/-! ## Runs -/

/-- `n` steps of the command `i`, one sequencer step each (R16). -/
def execTimes : Nat → Instr → State → Host.Outcome State Fault Refusal
  | 0, _, s => .next s
  | n + 1, i, s =>
    match exec i s with
    | .next t => execTimes n i t
    | .fault f => .fault f
    | .refused r => .refused r

/-- `n` steps of the machine. -/
def stepTimes : Nat → State → Host.Outcome State Fault Refusal
  | 0, s => .next s
  | n + 1, s =>
    match step s with
    | .next t => stepTimes n t
    | .fault f => .fault f
    | .refused r => .refused r

/-- `n` moves of the sequencer, each with the draw `next` (R16, R296). -/
def sequencerTimes : Nat → Lane → State → Host.Outcome State Fault Refusal
  | 0, _, s => .next s
  | n + 1, next, s =>
    match sequencerMove exec next s with
    | .next t => sequencerTimes n next t
    | .fault f => .fault f
    | .refused r => .refused r

/-- The requester that the next step grants, none where that step is no move of a free sequencer or
nothing is pending (R343). -/
def grantedAt (s : State) : Option Agent :=
  if s.lock = none ∧ Config.isSequencer (nextMove s) = true then
    (grantChoice (takeTurn s)).map Prod.fst
  else none

/-- The answer the PHY gives to the `k`th transaction from here on (R71, R73). -/
def replyAt (s : State) (k : Nat) : Reply := (s.phy[k]?).getD (Config.freeReply (s.draws + k))

/-- The first `n` transactions from here on complete, the `k`th with the word `f k`. -/
def Answered (s : State) (n : Nat) (f : Nat → Word) : Prop := ∀ k, k < n → replyAt s k = .ok (f k)

/-- The command `i` is accepted with the operands `a` and `d`, and the sequencer is free (R140,
R142). -/
def Ready (i : Instr) (a d : Word) (s : State) : Prop :=
  s.lock = none ∧ s.hostCmd = some { cmd := i, addr := a, data := d }

/-- The invocation `inv` is the one that runs, for the command `i` with the operands `a` and `d`
(R43, R57). -/
def Running (i : Instr) (a d : Word) (inv : Invocation) (s : State) : Prop :=
  s.lock = some .host ∧ s.inv = some inv ∧ inv.proc = .command i a d

/-! ## The procedure of each command (R101) -/

/-- The procedure of a command. -/
def codeOf (c : Cfg) (a d : Word) : Instr → List MicroOp
  | .probe => probeCode c a d
  | .detach => detachCode c a d
  | .regRead => regReadCode c a d
  | .regWrite => regWriteCode c a d
  | .assertRxReset L => assertSeq c .rxRst L
  | .deassertRxReset L => deassertSeq c .rxRst L
  | .assertTxCoreReset L => assertSeq c .txcoreRst L
  | .deassertTxCoreReset L => deassertSeq c .txcoreRst L
  | .assertTxPllReset L => assertSeq c .txpllRst L
  | .deassertTxPllReset L => deassertSeq c .txpllRst L
  | .assertRxPowerdown L => assertSeq c .rxPd L
  | .deassertRxPowerdown L => deassertSeq c .rxPd L
  | .disableLolMonitor L => lolDisableSeq c L
  | .toggleReset d L => toggleSeq c (domainOf d) L
  | .runAutozero L => azCode c L
  | .runFreqPll L => fpCode c L
  | .txRestart l => txRestartSeq c l
  | .recover L => recoverCode c L .host

/-- The final updates of a command besides `finish`. -/
def finalOf : Instr → RecoveryOutcome → State → State
  | .probe => probeFinal
  | .detach => detachFinal
  | .recover _ => recoverEnd
  | .regRead | .regWrite | .assertRxReset _ | .deassertRxReset _ | .assertTxCoreReset _
  | .deassertTxCoreReset _ | .assertTxPllReset _ | .deassertTxPllReset _ | .assertRxPowerdown _
  | .deassertRxPowerdown _ | .disableLolMonitor _ | .toggleReset _ _ | .runAutozero _
  | .runFreqPll _ | .txRestart _ => noFinal

/-- The domain a reset command works on and whether it sets the domain's bits (R174 to R182); none
for the other commands. -/
def rmwOf (c : Cfg) : Instr → Option (Domain × LaneId × Bool)
  | .assertRxReset L => some (.rxRst, L, true)
  | .deassertRxReset L => some (.rxRst, L, false)
  | .assertTxCoreReset L => some (.txcoreRst, L, true)
  | .deassertTxCoreReset L => some (.txcoreRst, L, false)
  | .assertTxPllReset L => some (.txpllRst, L, true)
  | .deassertTxPllReset L => some (.txpllRst, L, false)
  | .assertRxPowerdown L => some (.rxPd, L, true)
  | .deassertRxPowerdown L => some (.rxPd, L, false)
  | .disableLolMonitor L => some (.lolDis, L, c.loldisSet)
  | .probe | .detach | .regRead | .regWrite | .toggleReset _ _ | .runAutozero _ | .runFreqPll _
  | .txRestart _ | .recover _ => none

/-! ## What a command's step stores at the PHY -/

/-- An event that is a write transaction, completed or failed (R72, R73). -/
def isStore : Event → Bool
  | .wr _ _ | .wrFail _ _ => true
  | .rd _ _ | .rdFail _ | .wait _ | .began _ _ _ | .ended _ _ _ _ | .logged _ _ _ | .hostWr _ _
  | .hostRd _ _ => false

/-- The address and the word that a command's next step writes, none where it writes nothing: the
word of the primitive that `inv`'s position names in the command's procedure. -/
def storeOf (i : Instr) (a d : Word) (inv : Invocation) (s : State) : Option (Word × Word) :=
  match inv.pos with
  | .run n => ((codeOf (cfgOf s) a d i)[n]?).bind fun op => writtenWord op.act inv s
  | .returned _ | .retried _ => none

/-- The write events of a step that writes `w` and is answered `r` (R72, R73). -/
def storeEvents (w : Option (Word × Word)) (r : Reply) : List Event :=
  match w, r with
  | none, _ => []
  | some p, .ok _ => [.wr p.1 p.2]
  | some p, .fail => [.wrFail p.1 p.2]

/-- A command's invocation as it begins (R142). -/
def startOf (i : Instr) (a d : Word) : Invocation :=
  { proc := .command i a d, pos := .run 0, v := 0#16, allDone := false }

/-! ## Configurations -/

/-- R8(a) to (f), with the nine offset registers of R7 and R230's relation of the two delays. -/
structure Admitted (c : Cfg) : Prop where
  bases : ∀ b, b ∈ c.perLaneBases ∨ (∃ k, .perLaneBit b k ∈ c.laneTargets) →
    b.toNat + 3 * 0x100 ≤ 0xFFFF ∧
    ∀ l : Lane, laneAddr b l ≠ 0x0002#16 ∧ laneAddr b l ≠ 0x0003#16
  bits : ∀ k, k ∈ c.bitIndices ∨ (∃ b, .perLaneBit b k ∈ c.laneTargets) ∨
    (∃ a, .globalBit a k ∈ c.allTargets) → k ≤ 15
  offsets : ∀ off, (∃ a, .laneBits a off ∈ c.laneTargets) ∨
    (∃ a, .laneBitsAll a off ∈ c.allTargets) → off ≤ 12
  addresses : ∀ a, a ∈ c.aggregateAddrs ∨ (∃ off, .laneBits a off ∈ c.laneTargets) ∨
    (∃ k, .globalBit a k ∈ c.allTargets) ∨ (∃ off, .laneBitsAll a off ∈ c.allTargets) →
    a ≠ 0x0002#16 ∧ a ≠ 0x0003#16
  code_field : c.fOscCodeLo ≤ c.fOscCodeHi
  limit : ∀ n, c.regcalPollLimit = some n → 1 ≤ n
  nine : c.baseSaOfs.length = 9
  delays : c.tFaShort < c.tFaLong

/-! ## What a reset leaves -/

/-- The table of R370, with the interrupt inputs at `level2` and `level3`. -/
structure AfterReset (level2 level3 : Bool) (s : State) : Prop where
  registers : ∀ off : BitVec 4, hostRegister off s =
    ([0x0000#16, 0x0000#16, 0x0000#16, 0x0000#16, 0x0000#16, 0x0F00#16, 0x0F70#16, 0x0000#16,
      0x0186#16, 0x0186#16, 0x0186#16, 0x0186#16, 0x0000#16][off.toNat]?).getD 0x0000#16
  fsm_idle : s.fsm = .idle ∧ s.reason = none
  no_target : s.target = none ∧ s.agent = .host
  no_invocation : s.inv = none ∧ s.lock = none ∧ s.hostCmd = none
  counters : s.azCount = 0 ∧ s.regcalCount = 0
  monitor : s.monArmed = false ∧ s.monDue = false ∧ s.monPeriod = (cfgOf s).tMon
  line2 : s.irq2 =
    { level := level2, active := false, pending := false, attempts := 0, lastOk := false }
  line3 : s.irq3 =
    { level := level3, active := false, pending := false, attempts := 0, lastOk := false }
  unbound : s.bound = false ∧ s.transportFault = false
  no_events : s.trace = []

/-! ## Traces -/

/-- An event that is a transaction of the Register Access Port (R11, R73). -/
def isTransaction : Event → Bool
  | .rd _ _ | .rdFail _ | .wr _ _ | .wrFail _ _ => true
  | .wait _ | .began _ _ _ | .ended _ _ _ _ | .logged _ _ _ | .hostWr _ _ | .hostRd _ _ => false

/-- An event that is a failed transaction (R73). -/
def isFailure : Event → Bool
  | .rdFail _ | .wrFail _ _ => true
  | .rd _ _ | .wr _ _ | .wait _ | .began _ _ _ | .ended _ _ _ _ | .logged _ _ _ | .hostWr _ _
  | .hostRd _ _ => false

/-- The Begin and End of RECOVER inside a monitor tick, which are no invocation's (R262, R340). -/
def nested (ag : Agent) (k : Kind) : Bool := decide (ag = .monitor ∧ k = .recover)

/-- The agent whose invocation is open at the end of a trace, newest event first (R16). -/
def openOf : List Event → Option Agent
  | [] => none
  | .began ag k _ :: es => if nested ag k then openOf es else some ag
  | .ended ag k _ _ :: es => if nested ag k then openOf es else none
  | .rd _ _ :: es | .rdFail _ :: es | .wr _ _ :: es | .wrFail _ _ :: es | .wait _ :: es
  | .logged _ _ _ :: es | .hostWr _ _ :: es | .hostRd _ _ :: es => openOf es

/-- A trace in which an invocation begins only when none is open, ends only when its own agent's is
open, and no transaction, Wait or Log stands outside an invocation (R16, R87, R343). -/
def traceOk : List Event → Bool
  | [] => true
  | .began ag k _ :: es =>
    traceOk es && decide (openOf es = if nested ag k then some .monitor else none)
  | .ended ag _ _ _ :: es => traceOk es && decide (openOf es = some ag)
  | .rd _ _ :: es | .rdFail _ :: es | .wr _ _ :: es | .wrFail _ _ :: es | .wait _ :: es
  | .logged _ _ _ :: es => traceOk es && (openOf es).isSome
  | .hostWr _ _ :: es | .hostRd _ _ :: es => traceOk es

/-- The agent an invocation runs under (R15). -/
def procAgent : Proc → Agent
  | .command _ _ _ => .host
  | .tick _ => .monitor
  | .irqRetry l => irqAgent l

/-- The lock is held by the running invocation's agent, the trace says the same, and the sticky
fault says whether a transaction has failed (R57, R60, R87). -/
structure TraceInv (s : State) : Prop where
  lock_eq : s.lock = s.inv.map fun inv => procAgent inv.proc
  open_eq : openOf s.trace = s.lock
  trace_ok : traceOk s.trace = true
  fault_eq : s.transportFault = s.trace.any isFailure

/-! ## Well-formed states -/

/-- An outcome that some rule produces and that is a failure (R330, R336). -/
def failing : RecoveryOutcome → Bool
  | .autoZeroTimeout | .txPllNotLocked | .transportError | .deviceIdentityMismatch
  | .regulatorCalibrationTimeout => true
  | .success | .calibrationNotDone | .efuseIncomplete | .voltageRegNotComplete | .invalidLane => false

/-- The LaneId and the agent of the RECOVER that a procedure is running, if it is running one. -/
def recoverOf : Proc → Option (LaneId × Agent)
  | .command (.recover L) _ _ => some (L, .host)
  | .tick (.recover L _) => some (L, .monitor)
  | .command .probe _ _ | .command .detach _ _ | .command .regRead _ _ | .command .regWrite _ _
  | .command (.assertRxReset _) _ _ | .command (.deassertRxReset _) _ _
  | .command (.assertTxCoreReset _) _ _ | .command (.deassertTxCoreReset _) _ _
  | .command (.assertTxPllReset _) _ _ | .command (.deassertTxPllReset _) _ _
  | .command (.assertRxPowerdown _) _ _ | .command (.deassertRxPowerdown _) _ _
  | .command (.disableLolMonitor _) _ _ | .command (.toggleReset _ _) _ _
  | .command (.runAutozero _) _ _ | .command (.runFreqPll _) _ _ | .command (.txRestart _) _ _
  | .tick (.sample _) | .tick .finish | .irqRetry _ => none

/-- The LaneId and the agent of the RECOVER in progress: one whose first transaction, which enters
ResetAsserted, has been performed (R262). -/
def recovering (inv : Invocation) : Option (LaneId × Agent) :=
  if inv.pos = .run 0 then none else recoverOf inv.proc

/-- `st.fsm` is one of the four states of a RECOVER in progress (R262). -/
def inProgress : Fsm → Bool
  | .resetAsserted | .calibratingAZ | .acquiringFrequency | .lockTesting => true
  | .idle | .locked | .failed => false

/-- The host request and STATUS agree (R35, R140, R141, R143). -/
structure HostInv (s : State) : Prop where
  busy_eq : s.busy = s.hostCmd.isSome
  busy_clean : s.busy = true →
    s.doneFlag = false ∧ s.outcome = none ∧ s.cmdRefused = false
  refused_eq : s.cmdRefused = decide (s.refuseReason ≠ .none)
  refused_clean : s.cmdRefused = true → s.doneFlag = true ∧ s.outcome = none
  outcome_ok : ∀ o, s.outcome = some o → o = .success ∨ failing o = true
  cmd_eq : ∀ h, s.hostCmd = some h → decode s.cmd = .ok h.cmd
  gate : ∀ h, s.hostCmd = some h → needsBound h.cmd = true → s.bound = true
  probe_gate : ∀ h, s.hostCmd = some h → h.cmd = .probe → s.bound = false

/-- The running invocation agrees with the request it serves and with its own reads (R43, R52,
R290). -/
structure InvocationInv (s : State) : Prop where
  lock_eq : s.lock = s.inv.map fun inv => procAgent inv.proc
  held : ∀ inv c a d, s.inv = some inv → inv.proc = .command c a d →
    s.hostCmd = some { cmd := c, addr := a, data := d }
  bound : ∀ inv, s.inv = some inv → procAgent inv.proc ≠ .host → s.bound = true
  returned_ok : ∀ inv o, s.inv = some inv → inv.pos = .returned o ∨ inv.pos = .retried o →
    failing o = true
  probe_hi : ∀ inv a d, s.inv = some inv → inv.proc = .command .probe a d → inv.pos = .run 1 →
    inv.v = s.resultHi
  probe_id : ∀ inv a d n, s.inv = some inv → inv.proc = .command .probe a d → inv.pos = .run n →
    2 ≤ n → concat s.resultHi s.result = Config.productId

/-- The orchestrator's registers agree with the RECOVER in progress, if there is one (R36, R41,
R42, R262, R268). -/
structure FsmInv (s : State) : Prop where
  progress_eq : inProgress s.fsm = (s.inv.bind recovering).isSome
  progress_of : ∀ p, s.inv.bind recovering = some p →
    s.target = some p.1 ∧ s.agent = p.2
  reason_eq : s.reason.isSome = decide (s.fsm = .failed)
  reason_ok : ∀ o, s.reason = some o → failing o = true
  target_eq : s.target.isSome = decide (s.fsm ≠ .idle)
  agent_ok : s.agent = .host ∨ s.agent = .monitor
  idle_agent : s.fsm = .idle → s.agent = .host

/-- The Lock Monitor's and the detach rules' registers (R37, R58, R293, R294). -/
structure MonitorInv (s : State) : Prop where
  sample_lt : s.monSample.toNat < 64
  period_eq : s.monPeriod = (cfgOf s).tMon
  armed_bound : s.monArmed = true → s.bound = true
  due_armed : s.monDue = true → s.monArmed = true
  one_tick : s.lock = some .monitor → s.monDue = false
  detach_quiet : detachAccepted s = true →
    s.monArmed = false ∧ s.irq2.pending = false ∧ s.irq3.pending = false

/-- One lane's interrupt-retry state (R59, R299, R300); `running` says that its attempt runs. -/
structure LineInv (x : IrqLine) (running present : Bool) : Prop where
  attempts_le : x.attempts ≤ Config.irqMaxAttempts
  waiting_lt : x.active = true → running = false → x.attempts < Config.irqMaxAttempts
  running_active : running = true → x.active = true ∧ 1 ≤ x.attempts
  pending_active : x.pending = true → x.active = true
  absent : present = false →
    running = false ∧ x.active = false ∧ x.pending = false ∧ x.attempts = 0 ∧ x.lastOk = false

/-- A lane's attempt is the running invocation. -/
def attemptRuns (l : IrqLane) (s : State) : Bool :=
  match s.inv with
  | some inv => decide (inv.proc = .irqRetry l)
  | none => false

/-- The well-formed states: every state a run from reset reaches is one, and every step keeps it. -/
structure Inv (s : State) : Prop where
  host : HostInv s
  invocation : InvocationInv s
  fsm : FsmInv s
  monitor : MonitorInv s
  line2 : LineInv s.irq2 (attemptRuns .l2 s) (cfgOf s).hasIrqRetry
  line3 : LineInv s.irq3 (attemptRuns .l3 s) (cfgOf s).hasIrqRetry

/-! ## The stages of a recovery -/

/-- The state of a RECOVER whose next primitive is the one at index `n`, at least 1: the stage of the
primitive before it, because each stage is entered by its first transaction (R262; log 9). -/
def stageAt (c : Cfg) (L : LaneId) (n : Nat) : Fsm :=
  if n ≤ (raCode c L).length then .resetAsserted
  else if n ≤ (raCode c L).length + (azCode c L).length then .calibratingAZ
  else if n ≤ (raCode c L).length + (azCode c L).length + (acqCode c L).length then
    .acquiringFrequency
  else .lockTesting

/-- The outcome, besides TransportError, that a stage can end with instead of Success (R260). -/
def stageFailure : Fsm → Option RecoveryOutcome
  | .resetAsserted => some .regulatorCalibrationTimeout
  | .calibratingAZ => some .autoZeroTimeout
  | .lockTesting => some .txPllNotLocked
  | .idle | .acquiringFrequency | .locked | .failed => none

/-- The orchestrator's state is the one of the running RECOVER's position, and a RECOVER that has
returned has the outcome of its stage (R260, R262). -/
structure StageInv (s : State) : Prop where
  running : ∀ inv p n, s.inv = some inv → recovering inv = some p → inv.pos = .run n →
    1 ≤ n ∧ s.fsm = stageAt (cfgOf s) p.1 n
  returned : ∀ inv p o, s.inv = some inv → recovering inv = some p →
    inv.pos = .returned o ∨ inv.pos = .retried o → stageFailure s.fsm = some o

/-- The moves of `st.fsm` in one step (R260): a terminal state or Idle is held until a RECOVER enters
ResetAsserted, each stage is followed by the next one, the last one by Locked, and any of them by
Failed. A RECOVER whose first transaction fails is at Failed in that step (R333). -/
def fsmMoves : Fsm → Fsm → Bool
  | .idle, .idle | .locked, .locked | .failed, .failed => true
  | .idle, .resetAsserted | .locked, .resetAsserted | .failed, .resetAsserted => true
  | .idle, .failed | .locked, .failed => true
  | .resetAsserted, .resetAsserted | .resetAsserted, .calibratingAZ | .resetAsserted, .failed => true
  | .calibratingAZ, .calibratingAZ | .calibratingAZ, .acquiringFrequency
  | .calibratingAZ, .failed => true
  | .acquiringFrequency, .acquiringFrequency | .acquiringFrequency, .lockTesting
  | .acquiringFrequency, .failed => true
  | .lockTesting, .lockTesting | .lockTesting, .locked | .lockTesting, .failed => true
  | .idle, .calibratingAZ | .idle, .acquiringFrequency | .idle, .lockTesting | .idle, .locked => false
  | .locked, .idle | .locked, .calibratingAZ | .locked, .acquiringFrequency
  | .locked, .lockTesting => false
  | .failed, .idle | .failed, .calibratingAZ | .failed, .acquiringFrequency
  | .failed, .lockTesting | .failed, .locked => false
  | .resetAsserted, .idle | .resetAsserted, .acquiringFrequency | .resetAsserted, .lockTesting
  | .resetAsserted, .locked => false
  | .calibratingAZ, .idle | .calibratingAZ, .resetAsserted | .calibratingAZ, .lockTesting
  | .calibratingAZ, .locked => false
  | .acquiringFrequency, .idle | .acquiringFrequency, .resetAsserted
  | .acquiringFrequency, .calibratingAZ | .acquiringFrequency, .locked => false
  | .lockTesting, .idle | .lockTesting, .resetAsserted | .lockTesting, .calibratingAZ
  | .lockTesting, .acquiringFrequency => false

/-- The outcome that an event of the trace reports, if it reports one (R15). -/
def outcomeOf : Event → Option RecoveryOutcome
  | .ended _ _ _ o | .logged _ _ o => some o
  | .rd _ _ | .rdFail _ | .wr _ _ | .wrFail _ _ | .wait _ | .began _ _ _ | .hostWr _ _
  | .hostRd _ _ => none

/-- After DETACH has completed (R302): unbound, disarmed, nothing due or pending, and no invocation
of the monitor or an interrupt retry. -/
structure Quiet (s : State) : Prop where
  unbound : s.bound = false
  disarmed : s.monArmed = false
  not_due : s.monDue = false
  no_pending : s.irq2.pending = false ∧ s.irq3.pending = false
  not_running : s.lock = none ∨ s.lock = some .host

/-! ## A reference in the spec's pseudocode

Each definition below is one procedure of the spec as its rule writes it, run to its end. It is
`none` where a poll goes on for more than `fuel` attempts. -/

namespace Reference

/-- A piece of a procedure: it may not end within its fuel; else it returns a value or the outcome
that ends the procedure. -/
abbrev Piece (α : Type) := State → Option (Except RecoveryOutcome α × State)

/-- One piece after another. -/
def andThen {α β : Type} (p : Piece α) (f : α → Piece β) : Piece β := fun s =>
  match p s with
  | none => none
  | some (.error o, t) => some (.error o, t)
  | some (.ok x, t) => f x t

/-- The value `x`. -/
def value {α : Type} (x : α) : Piece α := fun s => some (.ok x, s)

/-- `return o` of an outcome that is not Success. -/
def giveUp {α : Type} (o : RecoveryOutcome) : Piece α := fun s => some (.error o, s)

/-- An assignment to block state. -/
def assign (f : State → State) : Piece Unit := fun s => some (.ok (), f s)

/-- `for x in xs`. -/
def forEach {α : Type} (xs : List α) (f : α → Piece Unit) : Piece Unit :=
  match xs with
  | [] => value ()
  | x :: rest => andThen (f x) fun _ => forEach rest f

/-- `MemRead(a, 2)`; a failure raises TransportError (R333). -/
def read (a : Word) : Piece Word := fun s =>
  match memRead a s with
  | (some v, t) => some (.ok v, t)
  | (none, t) => some (.error .transportError, setTransportFault t)

/-- `MemWrite(a, 2, v)`; a failure raises TransportError (R333). -/
def write (a v : Word) : Piece Unit := fun s =>
  match memWrite a v s with
  | (true, t) => some (.ok (), t)
  | (false, t) => some (.error .transportError, setTransportFault t)

/-- `Wait(t)`, no step at all when its length is 0 (R12). -/
def wait (t : Delay) : Piece Unit := fun s =>
  some (.ok (), if durationOf (cfgOf s) t = 0 then s else waitFor t s)

/-- R172. -/
def assertBits (c : Cfg) (d : Domain) (L : LaneId) : Piece Unit :=
  forEach (targets c d L) fun t => andThen (read t.1) fun v => write t.1 (set v t.2)

/-- R173. -/
def deassertBits (c : Cfg) (d : Domain) (L : LaneId) : Piece Unit :=
  forEach (targets c d L) fun t => andThen (read t.1) fun v => write t.1 (clear v t.2)

/-- R183. -/
def toggle (c : Cfg) (d : Domain) (L : LaneId) : Piece Unit :=
  forEach (targets c d L) fun t =>
    andThen (read t.1) fun v0 =>
    andThen (write t.1 (set v0 t.2)) fun _ =>
    andThen (wait .tToggle) fun _ => write t.1 v0

/-- R201. -/
def arm (c : Cfg) (L : LaneId) : Piece Unit :=
  andThen (forEach (lanes L) fun i => fun s => write (addrOf (oscMan c) i) (vcoGet s.vco i) s) fun _ =>
  andThen (forEach (lanes L) fun i => write (addrOf (rxMain c) i) 0x0418#16) fun _ =>
  andThen (write c.aSaOvrEn 0x0000#16) fun _ =>
  andThen (deassertBits c .rxRst L) fun _ =>
  forEach (lanes L) fun i =>
    andThen (write (addrOf (rxMain c) i) 0x0410#16) fun _ => write (addrOf (rxMain c) i) 0x0412#16

/-- R202: the reads of one attempt, `done` so far. -/
def attempt (c : Cfg) (done : Bool) : List Lane → Piece Bool
  | [] => value done
  | i :: rest =>
    andThen (read (addrOf (rxMain c) i)) fun v => attempt c (done && test v 2) rest

/-- R202: the repeat. -/
def poll (c : Cfg) (L : LaneId) : Nat → Piece Unit
  | 0 => fun _ => none
  | fuel + 1 =>
    andThen (assign fun s => { s with azCount := s.azCount + 1 }) fun _ =>
    andThen (attempt c true (lanes L)) fun done =>
    if done then value ()
    else fun s =>
      if s.azCount = 64 then giveUp .autoZeroTimeout s
      else andThen (wait .tAzPoll) (fun _ => poll c L fuel) s

/-- R203. -/
def snapshot (c : Cfg) (L : LaneId) : Piece Unit :=
  andThen
    (forEach (lanes L) fun i => forEach (saOfs c) fun f =>
      andThen (read (addrOf f i)) fun v => write (addrOf f i) (v >>> 8))
    fun _ => write c.aSaOvrEn 0x0001#16

/-- R201 to R204: `AZ(L)`. -/
def autoZero (fuel : Nat) (c : Cfg) (L : LaneId) : Piece Unit :=
  andThen (arm c L) fun _ =>
  andThen (assign fun s => { s with azCount := 0 }) fun _ =>
  andThen (poll c L fuel) fun _ => snapshot c L

/-- R230. -/
def acquire (c : Cfg) (L : LaneId) : Piece Unit :=
  andThen (forEach (lanes L) fun i => write (addrOf (faCtrl c) i) c.patFaEnable) fun _ =>
  andThen (forEach (lanes L) fun i =>
    write (addrOf (faRegFamily c c.regFaStart) i) c.patFaStart) fun _ =>
  andThen (wait .tFaShort) fun _ =>
  andThen (forEach (lanes L) fun i =>
    write (addrOf (faRegFamily c c.regFaCont) i) c.patFaCont) fun _ =>
  andThen (wait .tFaLong) fun _ =>
  forEach (lanes L) fun i => write (addrOf (oscMan c) i) c.patOscFinal

/-- R231. -/
def txRestart (c : Cfg) (i : Lane) : Piece Unit :=
  andThen (assertBits c .txcoreRst (.lane i)) fun _ =>
  andThen (assertBits c .txpllRst (.lane i)) fun _ =>
  andThen (deassertBits c .txpllRst (.lane i)) fun _ =>
  andThen (wait .tTxRestart) fun _ =>
  deassertBits c .txcoreRst (.lane i)

/-- R232. -/
def restartPll (c : Cfg) : LaneId → Piece Unit
  | .allLanes =>
    andThen (assertBits c .txpllRst .allLanes) fun _ => deassertBits c .txpllRst .allLanes
  | .lane i => txRestart c i

/-- R233. -/
def testLock (c : Cfg) (L : LaneId) : Piece Unit :=
  let at_ : Word × Nat :=
    match L with
    | .allLanes => (c.aAggLock, c.bAggLock)
    | .lane i => (addrOf (txpllStat c) i, c.bLock)
  andThen (read at_.1) fun v =>
    if test v at_.2 then value () else giveUp .txPllNotLocked

/-- R234. -/
def updateTrim (c : Cfg) (L : LaneId) : Piece Unit :=
  forEach (lanes L) fun i =>
    andThen (read (addrOf (oscCode c) i)) fun v =>
      assign fun s =>
        { s with vco := vcoSet s.vco i (field v c.fOscCodeHi c.fOscCodeLo + 5#16) }

/-- R235. -/
def enableTx (c : Cfg) (L : LaneId) : Piece Unit :=
  andThen (deassertBits c .txcoreRst L) fun _ =>
    match L with
    | .allLanes =>
      andThen (read c.aAggLaneCtrl) fun v => write c.aAggLaneCtrl (clear v (bit c.bTxen))
    | .lane _ => value ()

/-- R236. -/
def flushFifo (c : Cfg) : Piece Unit :=
  andThen (write c.aFifo c.patFifoAssert) fun _ =>
  andThen (write c.aFifo c.patFifoClear) fun _ =>
  andThen (read c.aLol) fun _ =>
  andThen (read c.aLos) fun _ => value ()

/-- R237: `ACQ(L)`. -/
def acq (c : Cfg) (L : LaneId) : Piece Unit := andThen (acquire c L) fun _ => restartPll c L

/-- R237: `LOCK(L)`. -/
def lock (c : Cfg) (L : LaneId) : Piece Unit :=
  andThen (testLock c L) fun _ =>
  andThen (updateTrim c L) fun _ =>
  andThen (enableTx c L) fun _ => flushFifo c

/-- R237: `FP(L)`. -/
def freqPll (c : Cfg) (L : LaneId) : Piece Unit := andThen (acq c L) fun _ => lock c L

/-- R264: the repeat. -/
def regcalPoll (c : Cfg) : Nat → Piece Unit
  | 0 => fun _ => none
  | fuel + 1 =>
    andThen (read c.aRegcal) fun v =>
    andThen (assign fun s => { s with regcalCount := s.regcalCount + 1 }) fun _ =>
    if test v c.bRegcal then value ()
    else fun s =>
      if c.regcalPollLimit = some s.regcalCount then giveUp .regulatorCalibrationTimeout s
      else andThen (wait .tRegcalPoll) (fun _ => regcalPoll c fuel) s

/-- R263, R264: `RA(L)`. -/
def resetAsserted (fuel : Nat) (c : Cfg) : LaneId → Piece Unit
  | .lane i => andThen (assertBits c .rxRst (.lane i)) fun _ => wait .tRxRst
  | .allLanes =>
    andThen (write c.aMrst 0x9C00#16) fun _ =>
    andThen (assign fun s => { s with regcalCount := 0 }) fun _ => regcalPoll c fuel

/-- `st.fsm <- f` (R262). -/
def stage (f : Fsm) : Piece Unit := assign fun s => { s with fsm := f }

/-- R262: the stages of `RECOVER(L, ag)` between its Begin event and its last assignments. -/
def recover (fuel : Nat) (c : Cfg) (L : LaneId) (ag : Agent) : Piece Unit :=
  andThen (assign fun s =>
    { s with fsm := .resetAsserted, target := some L, agent := ag, reason := none }) fun _ =>
  andThen (resetAsserted fuel c L) fun _ =>
  andThen (stage .calibratingAZ) fun _ =>
  andThen (autoZero fuel c L) fun _ =>
  andThen (stage .acquiringFrequency) fun _ =>
  andThen (acq c L) fun _ =>
  andThen (stage .lockTesting) fun _ => lock c L

/-- R290: PROBE before its last updates. -/
def probe : Piece Unit :=
  andThen (read 0x0002#16) fun hi =>
  andThen (assign fun s => { s with resultHi := hi }) fun _ =>
  andThen (read 0x0003#16) fun lo =>
  andThen (assign fun s => { s with result := lo }) fun _ =>
  if concat hi lo = 0x02107440#32 then value () else giveUp .deviceIdentityMismatch

/-- The procedure of each command, with its latched operands (R101). -/
def body (fuel : Nat) (c : Cfg) (a d : Word) : Instr → Piece Unit
  | .probe => probe
  | .detach => value ()
  | .regRead => andThen (read a) fun v => assign fun s => { s with result := v }
  | .regWrite => write a d
  | .assertRxReset L => assertBits c .rxRst L
  | .deassertRxReset L => deassertBits c .rxRst L
  | .assertTxCoreReset L => assertBits c .txcoreRst L
  | .deassertTxCoreReset L => deassertBits c .txcoreRst L
  | .assertTxPllReset L => assertBits c .txpllRst L
  | .deassertTxPllReset L => deassertBits c .txpllRst L
  | .assertRxPowerdown L => assertBits c .rxPd L
  | .deassertRxPowerdown L => deassertBits c .rxPd L
  | .disableLolMonitor L => if c.loldisSet then assertBits c .lolDis L else deassertBits c .lolDis L
  | .toggleReset dm L => toggle c (domainOf dm) L
  | .runAutozero L => autoZero fuel c L
  | .runFreqPll L => freqPll c L
  | .txRestart l => txRestart c l
  | .recover L => recover fuel c L .host

/-- The updates of a command's final step that its own rule gives (R262, R290, R293). -/
def lastUpdates (i : Instr) (o : RecoveryOutcome) (s : State) : State :=
  match i with
  | .probe => if o = .success then attach s else s
  | .detach => { s with bound := false }
  | .recover _ =>
    if o = .success then { s with fsm := .locked } else { s with fsm := .failed, reason := some o }
  | .regRead | .regWrite | .assertRxReset _ | .deassertRxReset _ | .assertTxCoreReset _
  | .deassertTxCoreReset _ | .assertTxPllReset _ | .deassertTxPllReset _ | .assertRxPowerdown _
  | .deassertRxPowerdown _ | .disableLolMonitor _ | .toggleReset _ _ | .runAutozero _
  | .runFreqPll _ | .txRestart _ => s

/-- R143, R338: `finish o` of a host command. -/
def finish (i : Instr) (o : RecoveryOutcome) (s : State) : State :=
  { s with
    trace := .ended .host (kindOf i) (laneOperand i) o :: s.trace
    outcome := some o
    busy := false
    doneFlag := true
    hostCmd := none
    lock := none
    inv := none }

/-- The outcome a piece ends with. -/
def resultOf : Except RecoveryOutcome Unit → RecoveryOutcome
  | .ok _ => .success
  | .error o => o

/-- R262, R295: what follows the stages of RECOVER(L, Monitor) that returned `o`: Locked or `fail(o)`,
the End event, and a Log event for a failure. -/
def recovered (L : LaneId) (o : RecoveryOutcome) (s : State) : State :=
  if o = .success then
    { s with fsm := .locked, trace := .ended .monitor .recover (some L) o :: s.trace }
  else
    { s with
      fsm := .failed
      reason := some o
      trace := .logged .monitor (some L) o :: .ended .monitor .recover (some L) o :: s.trace }

/-- R295, R297: the end of a tick. -/
def tickEnd (o : RecoveryOutcome) (s : State) : State :=
  { s with trace := .ended .monitor .tick none o :: s.trace, monRef := s.now, lock := none, inv := none }

/-- R300: `endBurst(l, ok)`. -/
def burstEnd (l : IrqLane) (ok : Bool) (s : State) : State :=
  let x := irqGet s l
  irqSet l
    (if x.pending then { x with active := true, pending := false, attempts := 0, lastOk := ok }
    else { x with active := false, lastOk := ok }) s

/-- R300: what follows the FP of an attempt that returned `o`. -/
def attemptEnd (l : IrqLane) (o : RecoveryOutcome) (s : State) : State :=
  let L := some (LaneId.lane (irqLaneOf l))
  let ended := fun (u : State) =>
    { u with trace := .ended (irqAgent l) .irqRetry L o :: u.trace, lock := none, inv := none }
  if o = .success then burstEnd l true (ended s)
  else
    let u := { s with trace := .logged (irqAgent l) L o :: s.trace }
    if (irqGet s l).attempts = 8 then burstEnd l false (ended u)
    else if (cfgOf s).tIrqRetry = 0 then ended u
    else ended { u with trace := .wait .tIrqRetry :: u.trace, now := u.now + (cfgOf s).tIrqRetry }

/-- A whole command from its grant to its completion (R142, R143): the state it leaves, none if it
does not end within its fuel. -/
def command (fuel : Nat) (i : Instr) (a d : Word) (s : State) : Option State :=
  match body fuel (cfgOf s) a d i
      { s with trace := .began .host (kindOf i) (laneOperand i) :: s.trace } with
  | none => none
  | some (.ok _, t) => some (finish i .success (lastUpdates i .success t))
  | some (.error o, t) => some (finish i o (lastUpdates i o t))

/-! ## The events of each procedure when every transaction completes

`f k` is the word of the `k`th transaction's answer; a write's answer carries none that is used. Each
list is in the order of the events, and `shift n f` gives the answers after `n` transactions. -/

/-- The answers after the first `n`. -/
def shift (n : Nat) (f : Nat → Word) : Nat → Word := fun k => f (n + k)

/-- The events of a Wait (R12). -/
def waitEvents (c : Cfg) (t : Delay) : List Event := if durationOf c t = 0 then [] else [.wait t]

/-- R172 and R173: the events of one read-modify-write for each target. -/
def rmwEvents (setting : Bool) : List (Word × Word) → (Nat → Word) → List Event
  | [], _ => []
  | (a, m) :: ts, f =>
    .rd a (f 0) :: .wr a (if setting then f 0 ||| m else f 0 &&& ~~~m)
      :: rmwEvents setting ts (shift 2 f)

/-- R183: the events of a toggle of each target. -/
def toggleEvents (c : Cfg) : List (Word × Word) → (Nat → Word) → List Event
  | [], _ => []
  | (a, m) :: ts, f =>
    [.rd a (f 0), .wr a (f 0 ||| m)] ++ waitEvents c .tToggle ++ [.wr a (f 0)]
      ++ toggleEvents c ts (shift 3 f)

/-- R231: the events of a TX restart of one lane. -/
def txRestartEvents (c : Cfg) (i : Lane) (f : Nat → Word) : List Event :=
  rmwEvents true (targets c .txcoreRst (.lane i)) f
    ++ rmwEvents true (targets c .txpllRst (.lane i)) (shift 2 f)
    ++ rmwEvents false (targets c .txpllRst (.lane i)) (shift 4 f)
    ++ waitEvents c .tTxRestart
    ++ rmwEvents false (targets c .txcoreRst (.lane i)) (shift 6 f)

/-- How many lanes a LaneId iterates over (R14). -/
def width (L : LaneId) : Nat := (lanes L).length

/-- R205: the transactions of steps 1 to 5 of `AZ(L)`. -/
def armCount (c : Cfg) (L : LaneId) : Nat := 4 * width L + 1 + 2 * (targets c .rxRst L).length

/-- R201: the events of steps 1 to 5. -/
def armEvents (c : Cfg) (t : VcoTable) (L : LaneId) (f : Nat → Word) : List Event :=
  (lanes L).map (fun i => .wr (laneAddr c.baseOscMan i) (vcoGet t i))
    ++ (lanes L).map (fun i => .wr (laneAddr c.baseRxMain i) 0x0418#16)
    ++ [.wr c.aSaOvrEn 0x0000#16]
    ++ rmwEvents false (targets c .rxRst L) (shift (2 * width L + 1) f)
    ++ (lanes L).flatMap fun i =>
        [.wr (laneAddr c.baseRxMain i) 0x0410#16, .wr (laneAddr c.baseRxMain i) 0x0412#16]

/-- The reads of some lanes' instances of a family, in order. -/
def readEvents (base : Word) : List Lane → (Nat → Word) → List Event
  | [], _ => []
  | i :: ls, f => .rd (laneAddr base i) (f 0) :: readEvents base ls (shift 1 f)

/-- R202: the events of `k` attempts, a Wait between each two. -/
def pollEvents (c : Cfg) (L : LaneId) : Nat → (Nat → Word) → List Event
  | 0, _ => []
  | 1, f => readEvents c.baseRxMain (lanes L) f
  | k + 2, f =>
    readEvents c.baseRxMain (lanes L) f ++ waitEvents c .tAzPoll
      ++ pollEvents c L (k + 1) (shift (width L) f)

/-- R202: the `j`th attempt, counted from 0, reads bit 2 set on every targeted lane. -/
def attemptDone (L : LaneId) (f : Nat → Word) (j : Nat) : Prop :=
  ∀ x, x < width L → (f (j * width L + x)).getLsbD 2 = true

/-- The nine snapshots of each lane: each register read, and written shifted right by 8 (R203). -/
def snapshotEvents : List Word → (Nat → Word) → List Event
  | [], _ => []
  | a :: as, f => .rd a (f 0) :: .wr a (f 0 >>> 8) :: snapshotEvents as (shift 2 f)

/-- R203: the registers of step 7 in order. -/
def snapshotAddrs (c : Cfg) (L : LaneId) : List Word :=
  (lanes L).flatMap fun i => c.baseSaOfs.map fun base => laneAddr base i

/-- R201 to R203: the events of `AZ(L)` when attempt `k` is the first that is done. -/
def azEvents (c : Cfg) (t : VcoTable) (L : LaneId) (k : Nat) (f : Nat → Word) : List Event :=
  armEvents c t L f
    ++ pollEvents c L k (shift (armCount c L) f)
    ++ snapshotEvents (snapshotAddrs c L) (shift (armCount c L + k * width L) f)
    ++ [.wr c.aSaOvrEn 0x0001#16]

/-- R201, R202, R204: the events of `AZ(L)` when no attempt is done. -/
def azTimeoutEvents (c : Cfg) (t : VcoTable) (L : LaneId) (f : Nat → Word) : List Event :=
  armEvents c t L f ++ pollEvents c L 64 (shift (armCount c L) f)

/-- The base of the family REG_FA_START or REG_FA_CONT names (R7). -/
def faBase (c : Cfg) : FaReg → Word
  | .faCtrl => c.baseFaCtrl
  | .oscMan => c.baseOscMan
  | .rxMain => c.baseRxMain

/-- R230, R232: the events of `ACQ(L)`. -/
def acqEvents (c : Cfg) (L : LaneId) (f : Nat → Word) : List Event :=
  (lanes L).map (fun i => .wr (laneAddr c.baseFaCtrl i) c.patFaEnable)
    ++ (lanes L).map (fun i => .wr (laneAddr (faBase c c.regFaStart) i) c.patFaStart)
    ++ waitEvents c .tFaShort
    ++ (lanes L).map (fun i => .wr (laneAddr (faBase c c.regFaCont) i) c.patFaCont)
    ++ waitEvents c .tFaLong
    ++ (lanes L).map (fun i => .wr (laneAddr c.baseOscMan i) c.patOscFinal)
    ++ match L with
      | .allLanes =>
        rmwEvents true [(c.aMrst, 0x0800#16)] (shift 16 f)
          ++ rmwEvents false [(c.aMrst, 0x0800#16)] (shift 18 f)
      | .lane i => txRestartEvents c i (shift 4 f)

/-- The transactions of `ACQ(L)`. -/
def acqCount : LaneId → Nat
  | .allLanes => 20
  | .lane _ => 12

/-- R233: the register and bit of the lock test. -/
def lockBit (c : Cfg) : LaneId → Word × Nat
  | .allLanes => (c.aAggLock, c.bAggLock)
  | .lane i => (laneAddr c.baseTxpllStat i, c.bLock)

/-- R233 to R236: the events of `LOCK(L)` when the lock bit read is set. -/
def lockEvents (c : Cfg) (L : LaneId) (f : Nat → Word) : List Event :=
  .rd (lockBit c L).1 (f 0) :: readEvents c.baseOscCode (lanes L) (shift 1 f)
    ++ (match L with
      | .allLanes =>
        rmwEvents false [(c.aMrst, 0x0400#16), (c.aAggLaneCtrl, bit c.bTxen)] (shift 5 f)
      | .lane i => rmwEvents false (targets c .txcoreRst (.lane i)) (shift 2 f))
    ++ [.wr c.aFifo c.patFifoAssert, .wr c.aFifo c.patFifoClear]
    ++ match L with
      | .allLanes => [.rd c.aLol (f 11), .rd c.aLos (f 12)]
      | .lane _ => [.rd c.aLol (f 6), .rd c.aLos (f 7)]

/-- R234: the trim table after some lanes' codes, in order, were read. -/
def trimmed (c : Cfg) : List Lane → (Nat → Word) → VcoTable → VcoTable
  | [], _, t => t
  | i :: ls, f, t =>
    trimmed c ls (shift 1 f) (vcoSet t i (field (f 0) c.fOscCodeHi c.fOscCodeLo + 5#16))

/-- R263, R264: the events of `RA(L)`, regulator calibration being seen at read `r`. -/
def regcalEvents (c : Cfg) : Nat → (Nat → Word) → List Event
  | 0, _ => []
  | 1, f => [.rd c.aRegcal (f 0)]
  | r + 2, f =>
    .rd c.aRegcal (f 0) :: waitEvents c .tRegcalPoll ++ regcalEvents c (r + 1) (shift 1 f)

/-- R263, R264: the events of `RA(L)`. -/
def raEvents (c : Cfg) (L : LaneId) (r : Nat) (f : Nat → Word) : List Event :=
  match L with
  | .lane i => rmwEvents true (targets c .rxRst (.lane i)) f ++ waitEvents c .tRxRst
  | .allLanes => .wr c.aMrst 0x9C00#16 :: regcalEvents c r (shift 1 f)

/-- The transactions of `RA(L)`. -/
def raCount (L : LaneId) (r : Nat) : Nat :=
  match L with
  | .lane _ => 2
  | .allLanes => 1 + r

/-- R264, R381: the first events of `RA(AllLanes)` when calibration is not seen at `r` reads and no limit
ends the poll: the reset write, then `r` times the read and its delay. -/
def hangEvents (c : Cfg) (r : Nat) (f : Nat → Word) : List Event :=
  .wr c.aMrst 0x9C00#16
    :: (List.range r).flatMap fun k => .rd c.aRegcal (f (k + 1)) :: waitEvents c .tRegcalPoll

/-- How many of some events are transactions. -/
def transactions (es : List Event) : Nat := (es.filter isTransaction).length

/-- The least time that some events take (R375). -/
def waited (c : Cfg) : List Event → Nat
  | [] => 0
  | .wait t :: es => durationOf c t + waited c es
  | .rd _ _ :: es | .rdFail _ :: es | .wr _ _ :: es | .wrFail _ _ :: es | .began _ _ _ :: es
  | .ended _ _ _ _ :: es | .logged _ _ _ :: es | .hostWr _ _ :: es | .hostRd _ _ :: es => waited c es

/-- How many of some events are Waits. -/
def waits : List Event → Nat
  | [] => 0
  | .wait _ :: es => waits es + 1
  | .rd _ _ :: es | .rdFail _ :: es | .wr _ _ :: es | .wrFail _ _ :: es | .began _ _ _ :: es
  | .ended _ _ _ _ :: es | .logged _ _ _ :: es | .hostWr _ _ :: es | .hostRd _ _ :: es => waits es

/-! ## A PHY that returns what was last written (R185) -/

/-- The registers a PHY holds after some events, oldest first, if it held `m` before them, keeps what
is written to it and answers each read with what it holds; none when the events are not such a
PHY's. -/
def replay : List Event → (Word → Word) → Option (Word → Word)
  | [], m => some m
  | .rd a v :: es, m => if m a = v then replay es m else none
  | .wr a v :: es, m => replay es fun x => if x = a then v else m x
  | .rdFail _ :: _, _ | .wrFail _ _ :: _, _ => none
  | .wait _ :: es, m | .began _ _ _ :: es, m | .ended _ _ _ _ :: es, m | .logged _ _ _ :: es, m
  | .hostWr _ _ :: es, m | .hostRd _ _ :: es, m => replay es m

/-- All the bits that some (address, mask) pairs have at an address (R171). -/
def maskAt : List (Word × Word) → Word → Word
  | [], _ => 0#16
  | (a, m) :: ts, x => if a = x then m ||| maskAt ts x else maskAt ts x

/-- What the command `i` leaves when it ends with the outcome `o` after the events `es`, besides the
registers its own rule writes (R142, R143, R338). -/
def completed (i : Instr) (o : RecoveryOutcome) (es : List Event) (s : State) : State :=
  { s with
    trace := .ended .host (kindOf i) (laneOperand i) o
      :: (es.reverse ++ .began .host (kindOf i) (laneOperand i) :: s.trace)
    outcome := some o
    busy := false
    doneFlag := true
    hostCmd := none
    lock := none
    inv := none
    phy := s.phy.drop (transactions es)
    draws := s.draws + transactions es
    now := s.now + waited (cfgOf s) es }

end Reference

end Sys2Proof.Machine
end

