-- ==== Sys2Proof/Certificates/Slice0/Obligations.lean ====
section
/-! DEFINITION. The statements about the model, each from the rules its docstring names. -/

open Sys2Proof Sys2Proof.Machine Sys2Proof.Machine.Reference

/-! ## Encoding -/

/-- R105, R109, R111: the decoder accepts exactly the encodings of the eighteen commands, each as the
command it encodes; every other word is a reserved encoding. -/
def Obligations.DecodeExact : Prop :=
  ∀ (w : Word) (i : Instr), decode w = .ok i ↔ w = encode i

/-- R101 to R103: the words the spec writes out decode to the commands it writes them for. -/
def Obligations.DecodeWords : Prop :=
  decode 0x0100#16 = .ok .probe ∧ decode 0x0200#16 = .ok .detach ∧
  decode 0x0300#16 = .ok .regRead ∧ decode 0x0400#16 = .ok .regWrite ∧
  decode 0x1080#16 = .ok (.assertRxReset .allLanes) ∧
  decode 0x1928#16 = .ok (.toggleReset .txPll (.lane .l1)) ∧
  decode 0x1980#16 = .ok (.toggleReset .rx .allLanes) ∧
  decode 0x2040#16 = .ok (.runAutozero (.lane .l2)) ∧
  decode 0x2160#16 = .ok (.runFreqPll (.lane .l3)) ∧
  decode 0x2240#16 = .ok (.txRestart .l2) ∧ decode 0x3040#16 = .ok (.recover (.lane .l2))

/-- R104. -/
def Obligations.ReservedBitsIllegal : Prop :=
  ∀ w : Word, w.extractLsb' 0 2 ≠ 0#2 → ∀ i, decode w ≠ .ok i

/-! ## Addressing and configuration -/

/-- R146. -/
def Obligations.BitFieldUtilities : Prop :=
  ∀ (v m : Word) (k : Nat),
    (Machine.test v k = v.getLsbD k) ∧ Machine.set v m = v ||| m ∧ Machine.clear v m = v &&& ~~~m

/-- R148. -/
def Obligations.ResolveAddresses : Prop :=
  ∀ base addr : Word,
    (∀ l : Lane, resolve (.lane l) (.perLane base) = [base + BitVec.ofNat 16 (idx l * 0x100)]) ∧
    resolve .allLanes (.perLane base) =
      [base, base + 0x0100#16, base + 0x0200#16, base + 0x0300#16] ∧
    (∀ L : LaneId, resolve L (.aggregate addr) = [addr]) ∧
    (∀ (F : Family) (l : Lane), resolve (.lane l) F = [addrOf F l])

/-- R149, R8: no address of a per-lane base of a well-formed configuration wraps, the base of a reset
target in a per-lane register among them, and the lane index lands in bits 9:8 of the offset. -/
def Obligations.LaneAddressesDoNotWrap : Prop :=
  ∀ (c : WfCfg) (base : Word) (l : Lane),
    base ∈ c.cfg.perLaneBases ∨ (∃ k, .perLaneBit base k ∈ c.cfg.laneTargets) →
    (laneAddr base l).toNat = base.toNat + idx l * 0x100 ∧
    laneAddr base l ≠ 0x0002#16 ∧ laneAddr base l ≠ 0x0003#16 ∧
    (laneAddr base l - base).extractLsb' 8 2 = BitVec.ofNat 2 (idx l)

/-- R170, R171: the (address, mask) pairs of a domain. Bit 11 of MRST is the spec's own inference
(R48, log 22). -/
def Obligations.ResetTargets : Prop :=
  ∀ (c : Cfg) (d : Domain),
    (∀ l base k, laneTargetOf c d = .perLaneBit base k →
      targets c d (.lane l) = [(base + BitVec.ofNat 16 (idx l * 0x100), 1#16 <<< k)]) ∧
    (∀ l addr off, laneTargetOf c d = .laneBits addr off →
      targets c d (.lane l) = [(addr, 1#16 <<< (idx l + off))]) ∧
    (∀ addr k, allTargetOf c d = .globalBit addr k → targets c d .allLanes = [(addr, 1#16 <<< k)]) ∧
    (∀ addr off, allTargetOf c d = .laneBitsAll addr off →
      targets c d .allLanes = [(addr, 0x000F#16 <<< off)]) ∧
    (allTargetOf c d = .eachLane →
      targets c d .allLanes =
        targets c d (.lane .l0) ++ targets c d (.lane .l1) ++ targets c d (.lane .l2)
          ++ targets c d (.lane .l3)) ∧
    targets c .rxRst .allLanes = [(c.aMrst, 0x8000#16)] ∧
    targets c .txcoreRst .allLanes = [(c.aMrst, 0x0400#16)] ∧
    targets c .txpllRst .allLanes = [(c.aMrst, 0x0800#16)]

/-- R8, and R230's relation of the two delays: a configuration that is well formed makes a machine of
that configuration just after reset, and every other one is refused. That a machine is given its
configuration by `configure` is the model's (logs 4, 23). -/
def Obligations.ConfigureChecks : Prop :=
  ∀ (c : Cfg) (l2 l3 : Bool),
    (Admitted c → ∃ s, configure c l2 l3 = .next s ∧ s.conf.cfg = c ∧ AfterReset l2 l3 s) ∧
    (¬ Admitted c → configure c l2 l3 = .refused .illFormedConfiguration)

/-! ## Reset, steps and invariants -/

/-- R370: what a reset leaves, whether applied by the environment at any time or the machine's own
start. The levels of the interrupt inputs after the machine's own start are free values (log 13), and
the monitor period is the parameter T_MON, whose unit is the model's (log 6). -/
def Obligations.ResetValues : Prop :=
  (∀ s l2 l3, nextMove s = .reset l2 l3 → ∃ t, step s = .next t ∧ AfterReset l2 l3 t) ∧
  AfterReset (Config.irqLevelAtReset .l2) (Config.irqLevelAtReset .l3) State.reset

/-- The three invariants hold right after reset. -/
def Obligations.ResetIsWellFormed : Prop :=
  Inv State.reset ∧ TraceInv State.reset ∧ StageInv State.reset

/-- Every step keeps the well-formed states: the request, the invocation, the orchestrator's
registers, the monitor's and the interrupt lines agree as their rules say (R35, R43, R59, R262,
R293, R300, R336). -/
def Obligations.StepKeepsInv : Prop :=
  ∀ s t : State, Inv s → step s = .next t → Inv t

/-- R16, R87, R343: every step keeps the trace bracketed: one invocation at a time, and no
transaction outside one; and R60: the sticky fault says whether a transaction has failed. The trace
is held newest event first (log 17). -/
def Obligations.StepKeepsTrace : Prop :=
  ∀ s t : State, TraceInv s → step s = .next t → TraceInv t

/-- R260, R262, R44: every step keeps the orchestrator's state at the stage of the running RECOVER,
and no step but a reset moves it otherwise than R260 says: each stage follows the one before it, and
a stage leads to Failed only with its own outcome or TransportError. The lock test is the first
transaction of LockTesting, so a recovery that it ends in that step passes through LockTesting within
the step. The passage through Idle is not seen, as R262 says (log 26), and the step of each update is
the model's reading of R16 (logs 9, 10). -/
def Obligations.StagesInOrder : Prop :=
  ∀ s t : State, Inv s → StageInv s → step s = .next t →
    StageInv t ∧ ((∀ l2 l3, nextMove s ≠ .reset l2 l3) → fsmMoves s.fsm t.fsm = true ∧
      (s.fsm ≠ .failed → t.fsm = .failed →
        t.reason = some .transportError ∨ t.reason = stageFailure s.fsm ∨
        (s.fsm = .acquiringFrequency ∧ t.reason = stageFailure .lockTesting)))

/-- R336: the four reserved kinds are never produced, in STATUS.OUTCOME, in FSM.REASON or in an event;
and a reserved LANE code is refused, not reported as InvalidLane. -/
def Obligations.ReservedKindsNeverProduced : Prop :=
  (∀ s t : State, Inv s → step s = .next t →
    (∀ o, t.outcome = some o ∨ t.reason = some o → o = .success ∨ failing o = true) ∧
    ((∀ l2 l3, nextMove s ≠ .reset l2 l3) → ∃ es, t.trace = es ++ s.trace ∧
      ∀ e ∈ es, ∀ o, outcomeOf e = some o → o = .success ∨ failing o = true)) ∧
  (∀ o, o = .success ∨ failing o = true ↔
    ¬ (o = .calibrationNotDone ∨ o = .efuseIncomplete ∨ o = .voltageRegNotComplete
      ∨ o = .invalidLane)) ∧
  (∀ (w : Word) (s : State), 5#3 ≤ fieldLane w → nextMove s = .hostWrite 0x0 w → s.busy = false →
    ∃ t, step s = .next t ∧ t.cmdRefused = true ∧ t.refuseReason = .reservedEncoding ∧
      t.outcome = none)

/-- R303: no command that needs BOUND, no tick and no interrupt attempt begins while unbound: only
PROBE, REG_READ and REG_WRITE do. -/
def Obligations.GateOnBound : Prop :=
  ∀ (s t : State) (ag : Agent) (k : Kind) (L : Option LaneId), Inv s → step s = .next t →
    (∃ es, t.trace = es ++ s.trace ∧ .began ag k L ∈ es) →
    s.bound = true ∨ (ag = .host ∧ (k = .probe ∨ k = .regRead ∨ k = .regWrite))

/-- R142, R16: a step that grants the accepted command, or continues the running one, is `exec` of
that command after the move is taken; so is the step after a command word is placed; and every move
of the sequencer is `sequencerMove`. How a word is placed to be run is the model's (log 15), and so
is the form of the draw (log 29). -/
def Obligations.StepRunsCommand : Prop :=
  (∀ (i : Instr) (a d : Word) (next : Lane) (rest : List Agent) (s : State),
    Ready i a d s → nextMove s = .sequencer next →
    grantChoice (takeTurn s) = some (.host, rest) →
    step s = exec i { takeTurn s with grants := rest }) ∧
  (∀ (i : Instr) (a d : Word) (inv : Invocation) (next : Lane) (s : State),
    Running i a d inv s → nextMove s = .sequencer next → step s = exec i (takeTurn s)) ∧
  (∀ (nbits w : Nat) (i : Instr) (s : State), decodeTableWord nbits w = some i →
    step (s.withFetchWord nbits w) =
      exec i { takeTurn (s.withFetchWord nbits w) with grants := s.grants }) ∧
  (∀ (next : Lane) (s : State), nextMove s = .sequencer next →
    step s = sequencerMove exec next (takeTurn s))

/-- R341: no outcome and no failure stops the sequencer or changes the configuration: every step of
every state answers a next state. That no step is a fault is the model's reading of R341 and R84
(log 23). -/
def Obligations.StepAlwaysAnswers : Prop :=
  ∀ s : State, ∃ t, step s = .next t ∧ t.conf = s.conf

/-- R293, R339, R341: only a completed DETACH or a reset unbinds the block, and only an accepted
DETACH or a reset disarms the monitor. -/
def Obligations.OnlyDetachUnbinds : Prop :=
  ∀ s t : State, step s = .next t → (∀ l2 l3, nextMove s ≠ .reset l2 l3) →
    (s.bound = true → t.bound = false →
      ∃ o, t.trace.head? = some (.ended .host .detach none o)) ∧
    (s.monArmed = true → t.monArmed = false → detachAccepted t = true)

/-- R52, R290, R291, R303: from a well-formed state, only a successful PROBE binds the block and
arms the monitor, and then RESULT_HI and RESULT hold the expected identifier. -/
def Obligations.OnlyProbeBinds : Prop :=
  ∀ s t : State, Inv s → step s = .next t →
    (s.bound = false ∧ t.bound = true) ∨ (s.monArmed = false ∧ t.monArmed = true) →
    t.trace.head? = some (.ended .host .probe none .success) ∧
    t.resultHi = 0x0210#16 ∧ t.result = 0x7440#16 ∧ t.bound = true ∧ t.monArmed = true ∧
    t.monDue = false ∧ t.monSample = 0x0000#16

/-- R54, R234, R240(a): the trim cache changes only at reset and by the read of a lane's OSC_CODE,
which writes that lane's entry alone, with the field read plus 5 on 16 bits. -/
def Obligations.TrimCacheWrites : Prop :=
  ∀ s t : State, step s = .next t → (∀ l2 l3, nextMove s ≠ .reset l2 l3) → t.vco ≠ s.vco →
    ∃ (l : Lane) (v : Word), replyAt s 0 = .ok v ∧
      t.trace.head? = some (.rd (laneAddr (cfgOf s).baseOscCode l) v) ∧
      t.vco = vcoSet s.vco l
        (field v (cfgOf s).fOscCodeHi (cfgOf s).fOscCodeLo + 5#16)

/-- R343, R340: a held lock is kept or released, never handed over: no invocation preempts another,
and a release is an End event of the holder. -/
def Obligations.LockHeldToEnd : Prop :=
  ∀ (s t : State) (ag : Agent), TraceInv s → step s = .next t →
    (∀ l2 l3, nextMove s ≠ .reset l2 l3) → s.lock = some ag →
    t.lock = some ag ∨
      (t.lock = none ∧ ∃ k L o, t.trace.head? = some (.ended ag k L o))

/-! ## The host interface -/

/-- R140, R141: what a host write to CMD does, whatever the word and the state; and R101, R345: PROBE,
REG_READ and REG_WRITE are the commands that need no BOUND. -/
def Obligations.CommandRequest : Prop :=
  (∀ c : Instr, needsBound c = false ↔ c = .probe ∨ c = .regRead ∨ c = .regWrite) ∧
  ∀ (w : Word) (s : State), nextMove s = .hostWrite 0x0 w →
    let s1 := { takeTurn s with trace := .hostWr 0x0 w :: s.trace }
    let s2 := { s1 with cmdOverrun := false, cmdRefused := false, refuseReason := .none,
                        doneFlag := false, outcome := none }
    (s.busy = true → step s = .next { s1 with cmdOverrun := true }) ∧
    (s.busy = false → (∀ c, decode w ≠ .ok c) →
      step s = .next { s2 with cmdRefused := true, refuseReason := .reservedEncoding,
                               doneFlag := true }) ∧
    (∀ c, s.busy = false → decode w = .ok c → c = .probe → s.bound = true →
      step s = .next { s2 with cmdRefused := true, refuseReason := .alreadyBound,
                               doneFlag := true }) ∧
    (∀ c, s.busy = false → decode w = .ok c → needsBound c = true → s.bound = false →
      step s = .next { s2 with cmdRefused := true, refuseReason := .notBound, doneFlag := true }) ∧
    (∀ c, s.busy = false → decode w = .ok c → (c = .probe → s.bound = false) →
      (needsBound c = true → s.bound = true) → c ≠ .detach →
      step s = .next { s2 with cmd := w, busy := true,
                               hostCmd := some { cmd := c, addr := s.argAddr, data := s.argData } }) ∧
    (s.busy = false → decode w = .ok .detach → s.bound = true →
      step s = .next { s2 with cmd := w, busy := true,
                               hostCmd := some { cmd := .detach, addr := s.argAddr, data := s.argData },
                               monArmed := false, monDue := false,
                               irq2 := { s.irq2 with pending := false },
                               irq3 := { s.irq3 with pending := false } })

/-- R35, R141: the fields of STATUS, and the values of REFUSE_REASON. -/
def Obligations.StatusFields : Prop :=
  ∀ s : State,
    (statusWord s).getLsbD 0 = s.busy ∧ (statusWord s).getLsbD 1 = s.doneFlag ∧
    (statusWord s).getLsbD 2 = s.bound ∧ (statusWord s).getLsbD 3 = s.monArmed ∧
    (statusWord s).getLsbD 4 = s.transportFault ∧ (statusWord s).getLsbD 5 = s.cmdRefused ∧
    (statusWord s).getLsbD 6 = s.cmdOverrun ∧ (statusWord s).getLsbD 7 = false ∧
    (statusWord s).extractLsb' 8 4 = outcomeField s.outcome ∧
    (statusWord s).extractLsb' 12 3 = refuseCode s.refuseReason ∧
    (s.refuseReason = .none → (statusWord s).extractLsb' 12 3 = 0#3) ∧
    (s.refuseReason = .reservedEncoding → (statusWord s).extractLsb' 12 3 = 1#3) ∧
    (s.refuseReason = .notBound → (statusWord s).extractLsb' 12 3 = 2#3) ∧
    (s.refuseReason = .alreadyBound → (statusWord s).extractLsb' 12 3 = 3#3) ∧
    (statusWord s).getLsbD 15 = false

/-- R108, R102, R36, R141: the codes that STATUS.OUTCOME and FSM.REASON show, those of
STATUS.REFUSE_REASON, and those of FSM.STATE, FSM.TARGET and FSM.AGENT. -/
def Obligations.OutcomeCodes : Prop :=
  [RecoveryOutcome.success, .autoZeroTimeout, .txPllNotLocked, .calibrationNotDone, .efuseIncomplete,
      .voltageRegNotComplete, .invalidLane, .transportError, .deviceIdentityMismatch,
      .regulatorCalibrationTimeout].map outcomeCode
    = [0x0#4, 0x1#4, 0x2#4, 0x3#4, 0x4#4, 0x5#4, 0x6#4, 0x7#4, 0x8#4, 0x9#4] ∧
  (∀ o, outcomeField (some o) = outcomeCode o ∧ (outcomeCode o).toNat ≤ 9) ∧
  outcomeField none = 0xF#4 ∧
  [Fsm.idle, .resetAsserted, .calibratingAZ, .acquiringFrequency, .lockTesting, .locked,
      .failed].map fsmCode = [0#3, 1#3, 2#3, 3#3, 4#3, 5#3, 6#3] ∧
  [none, some (LaneId.lane .l0), some (.lane .l1), some (.lane .l2), some (.lane .l3),
      some .allLanes].map targetCode = [7#3, 0#3, 1#3, 2#3, 3#3, 4#3] ∧
  [RefuseReason.none, .reservedEncoding, .notBound, .alreadyBound].map refuseCode
    = [0#3, 1#3, 2#3, 3#3] ∧
  agentCode .host = 0#2 ∧ agentCode .monitor = 1#2

/-- R36, R262, R39: the fields of FSM, with the values of REASON and AGENT, and, with the interrupt
retry, of IRQ_STATUS, attempts within their range (R59). That REASON is computed from `fsm` and
`reason` is the model's (log 28). -/
def Obligations.FsmAndIrqFields : Prop :=
  ∀ s : State,
    (fsmWord s).extractLsb' 0 3 = fsmCode s.fsm ∧ (fsmWord s).getLsbD 3 = false ∧
    (fsmWord s).extractLsb' 4 3 = targetCode s.target ∧ (fsmWord s).getLsbD 7 = false ∧
    (fsmWord s).extractLsb' 8 4 = fsmReason s ∧ (fsmWord s).extractLsb' 12 2 = agentCode s.agent ∧
    (s.fsm = .locked → (fsmWord s).extractLsb' 8 4 = 0x0#4) ∧
    (∀ o, s.fsm = .failed → s.reason = some o → (fsmWord s).extractLsb' 8 4 = outcomeCode o) ∧
    (s.fsm ≠ .locked → s.fsm ≠ .failed → (fsmWord s).extractLsb' 8 4 = 0xF#4) ∧
    (s.agent = .host → (fsmWord s).extractLsb' 12 2 = 0#2) ∧
    (s.agent = .monitor → (fsmWord s).extractLsb' 12 2 = 1#2) ∧
    (fsmWord s).extractLsb' 14 2 = 0#2 ∧
    ((cfgOf s).hasIrqRetry = false → irqStatusWord s = 0x0000#16) ∧
    ((cfgOf s).hasIrqRetry = true → s.irq2.attempts ≤ 8 → s.irq3.attempts ≤ 8 →
      ((irqStatusWord s).extractLsb' 0 4).toNat = s.irq2.attempts ∧
      ((irqStatusWord s).extractLsb' 4 4).toNat = s.irq3.attempts ∧
      (irqStatusWord s).getLsbD 8 = s.irq2.active ∧ (irqStatusWord s).getLsbD 9 = s.irq3.active ∧
      (irqStatusWord s).getLsbD 10 = s.irq2.pending ∧
      (irqStatusWord s).getLsbD 11 = s.irq3.pending ∧
      (irqStatusWord s).getLsbD 12 = s.irq2.lastOk ∧
      (irqStatusWord s).getLsbD 13 = s.irq3.lastOk ∧
      (irqStatusWord s).extractLsb' 14 2 = 0#2)

/-- R40: reserved offsets and bits read 0, and writes that no register takes change nothing. -/
def Obligations.ReservedAndReadOnly : Prop :=
  (∀ (off : BitVec 4) (s : State), nextMove s = .hostRead off → 0xD#4 ≤ off →
    step s = .next { takeTurn s with trace := .hostRd off 0x0000#16 :: s.trace }) ∧
  (∀ (off : BitVec 4) (v : Word) (s : State), nextMove s = .hostWrite off v → 0x3#4 ≤ off →
    step s = .next { takeTurn s with trace := .hostWr off v :: s.trace }) ∧
  (∀ s : State, Inv s →
    hostRegister 0x5 s &&& 0x8080#16 = 0#16 ∧ hostRegister 0x6 s &&& 0xC088#16 = 0#16 ∧
    hostRegister 0x7 s &&& 0xFFC0#16 = 0#16 ∧ hostRegister 0xC s &&& 0xC000#16 = 0#16)

/-- R31, R33, R38, R344: a host read records the register's value and changes nothing else; a host
write to ARG_ADDR or ARG_DATA changes that register alone, so not a latched operand. -/
def Obligations.HostAccesses : Prop :=
  (∀ (off : BitVec 4) (s : State), nextMove s = .hostRead off →
    step s = .next
      { takeTurn s with
        trace := .hostRd off
          (([s.cmd, s.argAddr, s.argData, s.result, s.resultHi, statusWord s, fsmWord s,
            s.monSample, s.vco.l0, s.vco.l1, s.vco.l2, s.vco.l3, irqStatusWord s][off.toNat]?).getD
              0x0000#16) :: s.trace }) ∧
  (∀ (v : Word) (s : State), nextMove s = .hostWrite 0x1 v →
    step s = .next { takeTurn s with argAddr := v, trace := .hostWr 0x1 v :: s.trace }) ∧
  (∀ (v : Word) (s : State), nextMove s = .hostWrite 0x2 v →
    step s = .next { takeTurn s with argData := v, trace := .hostWr 0x2 v :: s.trace })

/-- R112: WAIT_DONE reads STATUS until BUSY is 0 and DONE is 1; HW and HR are one host access. The
field that holds the host's program is the model's (log 24). -/
def Obligations.HostProgramSteps : Prop :=
  ∀ (p : HostPrim) (rest : List HostPrim) (s : State),
    nextMove s = .hostProgram → s.hostProg = p :: rest →
    (∀ off v, p = .hw off v →
      step s = .next (hostWrite off v { takeTurn s with hostProg := rest })) ∧
    (∀ off, p = .hr off → step s = .next (hostRead off { takeTurn s with hostProg := rest })) ∧
    (p = .waitDone → ∃ t, step s = .next t ∧
      t.trace = .hostRd 0x5 (statusWord s) :: s.trace ∧
      t.hostProg = if s.busy = false ∧ s.doneFlag = true then rest else p :: rest)

/-! ## Commands: results and completion -/

/-- R144: REG_READ completes with RESULT the word read; when the read fails it ends with
TransportError and RESULT unchanged. Everything else is as completion leaves it (R143). How the
steps are counted is the model's reading of R16 (log 8). -/
def Obligations.RegReadResult : Prop :=
  ∀ (a d : Word) (s : State), Ready .regRead a d s →
    (∀ v, replyAt s 0 = .ok v →
      execTimes 2 .regRead s = .next { completed .regRead .success [.rd a v] s with result := v }) ∧
    (replyAt s 0 = .fail →
      exec .regRead s = .next
        { completed .regRead .transportError [.rdFail a] s with transportFault := true })

/-- R145: REG_WRITE completes with one write of ARG_DATA at ARG_ADDR; a failed write ends it with
TransportError. How the steps are counted is the model's reading of R16 (log 8). -/
def Obligations.RegWriteResult : Prop :=
  ∀ (a d : Word) (s : State), Ready .regWrite a d s →
    (∀ v, replyAt s 0 = .ok v →
      execTimes 2 .regWrite s = .next (completed .regWrite .success [.wr a d] s)) ∧
    (replyAt s 0 = .fail →
      exec .regWrite s = .next
        { completed .regWrite .transportError [.wrFail a d] s with transportFault := true })

/-- R290, R291, R292: PROBE completes: it binds the block exactly when the two words are the
expected identifier, and else ends with DeviceIdentityMismatch and binds nothing. How the steps are
counted is the model's reading of R16 (log 8). -/
def Obligations.ProbeResult : Prop :=
  ∀ (a d hi lo : Word) (s : State), Ready .probe a d s →
    replyAt s 0 = .ok hi → replyAt s 1 = .ok lo →
    (hi = 0x0210#16 ∧ lo = 0x7440#16 →
      execTimes 3 .probe s = .next
        { completed .probe .success [.rd 0x0002#16 hi, .rd 0x0003#16 lo] s with
          resultHi := hi, result := lo, bound := true, monArmed := true, monDue := false
          monRef := s.now, monSample := 0x0000#16
          irq2 := if (cfgOf s).hasIrqRetry then
              { s.irq2 with pending := false, active := false, attempts := 0 } else s.irq2
          irq3 := if (cfgOf s).hasIrqRetry then
              { s.irq3 with pending := false, active := false, attempts := 0 } else s.irq3 }) ∧
    (¬ (hi = 0x0210#16 ∧ lo = 0x7440#16) →
      execTimes 3 .probe s = .next
        { completed .probe .deviceIdentityMismatch [.rd 0x0002#16 hi, .rd 0x0003#16 lo] s with
          resultHi := hi, result := lo })

/-- R293: DETACH, once granted the lock, unbinds the block and issues no transaction. How the steps
are counted is the model's reading of R16 (log 8). -/
def Obligations.DetachResult : Prop :=
  ∀ (a d : Word) (s : State), Ready .detach a d s →
    exec .detach s = .next { completed .detach .success [] s with bound := false }

/-- R172 to R182: each of the nine assert, de-assert and disable commands completes with one
read-modify-write for each target of its domain, and changes nothing else. How the steps are counted
is the model's reading of R16 (log 8). -/
def Obligations.ResetCommandResult : Prop :=
  ∀ (i : Instr) (dom : Domain) (L : LaneId) (setting : Bool) (a d : Word) (f : Nat → Word)
    (s : State), rmwOf (cfgOf s) i = some (dom, L, setting) → Ready i a d s →
    Answered s (2 * (targets (cfgOf s) dom L).length) f →
    execTimes (2 * (targets (cfgOf s) dom L).length + 1) i s =
      .next (completed i .success (rmwEvents setting (targets (cfgOf s) dom L) f) s)

/-- R185: with a PHY whose reads return what was last written, (a) TOGGLE_RESET leaves every register
as it was; (b) an ASSERT and then a DEASSERT of one domain and LaneId leave it with the domain's bits
clear, which is its old value exactly when those bits were clear; (c) a second ASSERT, and a second
DEASSERT, changes nothing. Each command completes. How the steps are counted is the model's reading of
R16 (log 8). -/
def Obligations.RoundTripLaws : Prop :=
  (∀ (dm : ResetDomain) (L : LaneId) (a d : Word) (f : Nat → Word) (s : State),
    Ready (.toggleReset dm L) a d s →
    Answered s (3 * (targets (cfgOf s) (domainOf dm) L).length) f →
    ∃ n t es, execTimes n (.toggleReset dm L) s = .next t ∧ t.lock = none ∧
      t.outcome = some .success ∧ t.trace = es ++ s.trace ∧
      ∀ m m', replay es.reverse m = some m' → m' = m) ∧
  (∀ (i j : Instr) (dom : Domain) (L : LaneId) (b1 b2 : Bool) (a1 d1 a2 d2 : Word)
    (f1 f2 : Nat → Word) (s1 s2 : State),
    rmwOf (cfgOf s1) i = some (dom, L, b1) → rmwOf (cfgOf s1) j = some (dom, L, b2) →
    s2.conf = s1.conf → Ready i a1 d1 s1 → Ready j a2 d2 s2 →
    Answered s1 (2 * (targets (cfgOf s1) dom L).length) f1 →
    Answered s2 (2 * (targets (cfgOf s1) dom L).length) f2 →
    let k := maskAt (targets (cfgOf s1) dom L)
    ∃ n1 t1 es1 n2 t2 es2,
      execTimes n1 i s1 = .next t1 ∧ t1.lock = none ∧ t1.outcome = some .success ∧
      t1.trace = es1 ++ s1.trace ∧
      execTimes n2 j s2 = .next t2 ∧ t2.lock = none ∧ t2.outcome = some .success ∧
      t2.trace = es2 ++ s2.trace ∧
      ∀ m0 m1 m2, replay es1.reverse m0 = some m1 → replay es2.reverse m1 = some m2 →
        (b1 = true → b2 = false → (∀ x, m2 x = m0 x &&& ~~~k x) ∧
          (m2 = m0 ↔ ∀ x, m0 x &&& k x = 0#16)) ∧
        (b1 = b2 → m2 = m1))

/-- R183: TOGGLE_RESET completes with, for each target, the read, the assert, the settle delay and
the write back of the value read, and changes nothing else. How the steps are counted is the model's
reading of R16 (log 8). -/
def Obligations.ToggleResult : Prop :=
  ∀ (dm : ResetDomain) (L : LaneId) (a d : Word) (f : Nat → Word) (s : State),
    let ts := targets (cfgOf s) (domainOf dm) L
    Ready (.toggleReset dm L) a d s → Answered s (3 * ts.length) f →
    execTimes ((toggleEvents (cfgOf s) ts f).length + 1) (.toggleReset dm L) s =
      .next (completed (.toggleReset dm L) .success (toggleEvents (cfgOf s) ts f) s)

/-- R231, R239: TX_RESTART completes with its eight transactions and its delay in order, and changes
nothing else. How the steps are counted is the model's reading of R16 (log 8). -/
def Obligations.TxRestartResult : Prop :=
  ∀ (l : Lane) (a d : Word) (f : Nat → Word) (s : State),
    Ready (.txRestart l) a d s → Answered s 8 f →
    execTimes ((txRestartEvents (cfgOf s) l f).length + 1) (.txRestart l) s =
      .next (completed (.txRestart l) .success (txRestartEvents (cfgOf s) l f) s)

/-- R200 to R205: RUN_AUTOZERO completes at its first attempt that is done, with the events of
`AZ(L)` and `st.azCount` that attempt; with no attempt of the 64 done it ends with AutoZeroTimeout
and no snapshot. Nothing else changes. How the steps are counted, and that a pure update shares the
step of a neighbouring primitive, is the model's reading of R16 (logs 8, 9). -/
def Obligations.AutozeroResult : Prop :=
  ∀ (L : LaneId) (a d : Word) (f : Nat → Word) (s : State),
    let c := cfgOf s
    let g := shift (armCount c L) f
    Ready (.runAutozero L) a d s →
    (∀ k, 1 ≤ k → k ≤ 64 → attemptDone L g (k - 1) → (∀ j, j + 1 < k → ¬ attemptDone L g j) →
      Answered s (transactions (azEvents c s.vco L k f)) f →
      execTimes ((azEvents c s.vco L k f).length + 1) (.runAutozero L) s = .next
        { completed (.runAutozero L) .success (azEvents c s.vco L k f) s with azCount := k }) ∧
    ((∀ j, j < 64 → ¬ attemptDone L g j) →
      Answered s (transactions (azTimeoutEvents c s.vco L f)) f →
      execTimes ((azTimeoutEvents c s.vco L f).length + 1) (.runAutozero L) s = .next
        { completed (.runAutozero L) .autoZeroTimeout (azTimeoutEvents c s.vco L f) s with
          azCount := 64 })

/-- R205: how many transactions and Waits a run of RUN_AUTOZERO costs, with n lanes and r transactions
of the RX reset de-assert: steps 1 to 5, the poll's attempts, and step 7; and R205's figures where the
RX reset of `L` is one (address, mask) pair. A delay of length 0 is no Wait (R12). How a command's
steps run is the model's reading of R16 (log 8). -/
def Obligations.AutozeroCounts : Prop :=
  ∀ (L : LaneId) (a d : Word) (f : Nat → Word) (s : State),
    let c := cfgOf s
    let n := (lanes L).length
    let r := 2 * (targets c .rxRst L).length
    let g := shift (4 * n + 1 + r) f
    let one := (waitEvents c .tAzPoll).length
    let run := fun (o : RecoveryOutcome) (total pauses : Nat) =>
      ∃ m t es, execTimes m (.runAutozero L) s = .next t ∧ t.lock = none ∧
        t.trace = .ended .host .runAutozero (some L) o
          :: (es ++ .began .host .runAutozero (some L) :: s.trace) ∧
        (∀ e ∈ es, isTransaction e = true ∨ e = .wait .tAzPoll) ∧
        transactions es = total ∧ waits es = pauses ∧ t.draws = s.draws + total
    Ready (.runAutozero L) a d s →
    (∀ k, 1 ≤ k → k ≤ 64 → attemptDone L g (k - 1) → (∀ j, j + 1 < k → ¬ attemptDone L g j) →
      Answered s ((n + n + 1 + r + 2 * n) + k * n + (18 * n + 1)) f →
      run .success ((n + n + 1 + r + 2 * n) + k * n + (18 * n + 1)) ((k - 1) * one) ∧
      ((targets c .rxRst L).length = 1 →
        (n + n + 1 + r + 2 * n) + k * n + (18 * n + 1)
          = match L with | .lane _ => 26 + k | .allLanes => 92 + 4 * k)) ∧
    ((∀ j, j < 64 → ¬ attemptDone L g j) →
      Answered s ((n + n + 1 + r + 2 * n) + 64 * n) f →
      run .autoZeroTimeout ((n + n + 1 + r + 2 * n) + 64 * n) (63 * one) ∧
      ((targets c .rxRst L).length = 1 →
        (n + n + 1 + r + 2 * n) + 64 * n
          = match L with | .lane _ => 71 | .allLanes => 275))

/-- R230 to R238, R240: RUN_FREQ_PLL completes; with the lock bit set it trims every targeted lane,
and with it clear it ends with TxPllNotLocked and no access after the lock test. How the steps are
counted is the model's reading of R16 (log 8). -/
def Obligations.FreqPllResult : Prop :=
  ∀ (L : LaneId) (a d : Word) (f : Nat → Word) (s : State),
    let c := cfgOf s
    let g := shift (acqCount L) f
    let es := acqEvents c L f ++ lockEvents c L g
    let short := acqEvents c L f ++ [.rd (lockBit c L).1 (g 0)]
    Ready (.runFreqPll L) a d s →
    ((g 0).getLsbD (lockBit c L).2 = true → Answered s (transactions es) f →
      execTimes (es.length + 1) (.runFreqPll L) s = .next
        { completed (.runFreqPll L) .success es s with
          vco := trimmed c (lanes L) (shift 1 g) s.vco }) ∧
    ((g 0).getLsbD (lockBit c L).2 = false → Answered s (transactions short) f →
      execTimes (short.length + 1) (.runFreqPll L) s =
        .next (completed (.runFreqPll L) .txPllNotLocked short s))

/-- R261 to R267, R270: RECOVER completes with Success at Locked, its stages' events in their order,
when regulator calibration is seen (AllLanes), an attempt is done and the lock bit is set. How the
steps are counted, and that a pure update shares the step of a neighbouring primitive, is the
model's reading of R16 (logs 8, 9). -/
def Obligations.RecoverResult : Prop :=
  ∀ (L : LaneId) (r k : Nat) (a d : Word) (f : Nat → Word) (s : State),
    let c := cfgOf s
    let f1 := shift (raCount L r) f
    let az := azEvents c s.vco L k f1
    let f2 := shift (transactions az) f1
    let f3 := shift (acqCount L) f2
    let es := raEvents c L r f ++ az ++ acqEvents c L f2 ++ lockEvents c L f3
    Ready (.recover L) a d s →
    (L = .allLanes → 1 ≤ r ∧ (f r).getLsbD c.bRegcal = true ∧
      ∀ j, 1 ≤ j → j < r → (f j).getLsbD c.bRegcal = false ∧ c.regcalPollLimit ≠ some j) →
    1 ≤ k → k ≤ 64 → attemptDone L (shift (armCount c L) f1) (k - 1) →
    (∀ j, j + 1 < k → ¬ attemptDone L (shift (armCount c L) f1) j) →
    (f3 0).getLsbD (lockBit c L).2 = true →
    Answered s (transactions es) f →
    execTimes (es.length + 1) (.recover L) s = .next
      { completed (.recover L) .success es s with
        fsm := .locked, reason := none, target := some L, agent := .host
        azCount := k, regcalCount := if L = .allLanes then r else s.regcalCount
        vco := trimmed c (lanes L) (shift 1 f3) s.vco }

/-- Every command does what the spec's pseudocode does, whatever the PHY answers: where the
reference ends, the same state is reached by steps of `exec`, for all eighteen commands. -/
def Obligations.CommandsRefineReference : Prop :=
  ∀ (fuel : Nat) (i : Instr) (a d : Word) (s t : State),
    Ready i a d s → command fuel i a d s = some t → ∃ n, execTimes n i s = .next t

/-- R202, R264, R340: every command ends within a bound whatever the PHY answers, except an AllLanes
RECOVER with no poll limit. The number 500 counts steps as the model takes them (log 8). -/
def Obligations.CommandsEnd : Prop :=
  ∀ (i : Instr) (a d : Word) (s : State), Ready i a d s →
    (i = .recover .allLanes → (cfgOf s).regcalPollLimit.isSome = true) →
    ∃ n t o, n ≤ 500 + 2 * (cfgOf s).regcalPollLimit.getD 0 ∧ execTimes n i s = .next t ∧
      t.lock = none ∧ t.inv = none ∧ t.hostCmd = none ∧ t.busy = false ∧ t.doneFlag = true ∧
      t.outcome = some o ∧ t.trace.head? = some (.ended .host (kindOf i) (laneOperand i) o)

/-- R264, R381: with no poll limit, an AllLanes RECOVER does not end for as long as the PHY's reads do
not report regulator calibration: after the reset write it reads the calibration register again and
again, its delay after each read, and stays in ResetAsserted with the sequencer held. How the steps
are counted is the model's reading of R16 (log 8). -/
def Obligations.RegcalHang : Prop :=
  ∀ (r : Nat) (a d : Word) (f : Nat → Word) (s : State), Ready (.recover .allLanes) a d s →
    (cfgOf s).regcalPollLimit = none → Answered s (1 + r) f →
    (∀ k, 1 ≤ k → k ≤ r → (f k).getLsbD (cfgOf s).bRegcal = false) →
    ∃ t inv, execTimes (hangEvents (cfgOf s) r f).length (.recover .allLanes) s = .next t ∧
      t.trace = (hangEvents (cfgOf s) r f).reverse
        ++ .began .host .recover (some .allLanes) :: s.trace ∧
      t.lock = some .host ∧ t.inv = some inv ∧ inv.proc = .command (.recover .allLanes) a d ∧
      t.busy = s.busy ∧ t.hostCmd = s.hostCmd ∧ t.outcome = s.outcome ∧ t.fsm = .resetAsserted ∧
      t.target = some .allLanes ∧ t.agent = .host ∧ t.reason = none ∧ t.regcalCount = r

/-- R333, R338, R339, R348: a failed transaction of a host command ends it in that step with
TransportError, the sticky fault set, and what was done before it kept. -/
def Obligations.TransportErrorEnds : Prop :=
  ∀ (i : Instr) (a d : Word) (inv : Invocation) (n : Nat) (op : MicroOp) (s : State),
    Running i a d inv s → inv.pos = .run n → (codeOf (cfgOf s) a d i)[n]? = some op →
    (∀ t back, op.act ≠ .wait t back) → replyAt s 0 = .fail →
    ∃ t e, exec i s = .next t ∧ isFailure e = true ∧
      t.trace = .ended .host (kindOf i) (laneOperand i) .transportError :: e :: s.trace ∧
      t.transportFault = true ∧ t.outcome = some .transportError ∧ t.busy = false ∧
      t.doneFlag = true ∧ t.hostCmd = none ∧ t.lock = none ∧ t.inv = none ∧
      t.vco = s.vco ∧ t.result = s.result ∧ t.resultHi = s.resultHi ∧ t.bound = s.bound ∧
      t.monArmed = s.monArmed ∧
      ((∃ L, i = .recover L) → t.fsm = .failed ∧ t.reason = some .transportError) ∧
      ((∀ L, i ≠ .recover L) → t.fsm = s.fsm ∧ t.reason = s.reason)

/-- R143, R338: a step of a running command either keeps it running, with the request and the
STATUS fields of completion as they were, or finishes it, all in that step. -/
def Obligations.CompletionStep : Prop :=
  ∀ (i : Instr) (a d : Word) (inv : Invocation) (s : State), Running i a d inv s →
    ∃ t, exec i s = .next t ∧
      ((t.lock = some .host ∧ t.inv.isSome = true ∧ t.hostCmd = s.hostCmd ∧ t.busy = s.busy ∧
          t.doneFlag = s.doneFlag ∧ t.outcome = s.outcome) ∨
       (∃ o, t.trace.head? = some (.ended .host (kindOf i) (laneOperand i) o) ∧
          t.outcome = some o ∧ t.busy = false ∧ t.doneFlag = true ∧ t.hostCmd = none ∧
          t.lock = none ∧ t.inv = none))

/-- The frame of every command's step: what it leaves unchanged. -/
def Obligations.ExecFrame : Prop :=
  ∀ (i : Instr) (s t : State), exec i s = .next t →
    (t.conf = s.conf ∧ t.cmd = s.cmd ∧ t.argAddr = s.argAddr ∧ t.argData = s.argData ∧
      t.cmdRefused = s.cmdRefused ∧ t.cmdOverrun = s.cmdOverrun ∧
      t.refuseReason = s.refuseReason ∧ t.monPeriod = s.monPeriod ∧
      t.agenda = s.agenda ∧ t.turn = s.turn ∧ t.grants = s.grants ∧ t.hostProg = s.hostProg) ∧
    (i ≠ .probe → t.resultHi = s.resultHi ∧ t.monSample = s.monSample ∧ t.monArmed = s.monArmed ∧
      t.monDue = s.monDue ∧ t.monRef = s.monRef ∧ t.irq2 = s.irq2 ∧ t.irq3 = s.irq3) ∧
    (t.irq2.level = s.irq2.level ∧ t.irq2.lastOk = s.irq2.lastOk ∧
      t.irq3.level = s.irq3.level ∧ t.irq3.lastOk = s.irq3.lastOk) ∧
    (i ≠ .probe → i ≠ .regRead → t.result = s.result) ∧
    (i ≠ .probe → i ≠ .detach → t.bound = s.bound) ∧
    ((∀ L, i ≠ .runFreqPll L ∧ i ≠ .recover L) → t.vco = s.vco) ∧
    (∀ L l, i = .runFreqPll L ∨ i = .recover L → l ∉ lanes L → vcoGet t.vco l = vcoGet s.vco l) ∧
    ((∀ L, i ≠ .recover L) →
      t.fsm = s.fsm ∧ t.reason = s.reason ∧ t.target = s.target ∧ t.agent = s.agent) ∧
    ((∀ L, i ≠ .runAutozero L ∧ i ≠ .recover L) → t.azCount = s.azCount) ∧
    (i ≠ .recover .allLanes → t.regcalCount = s.regcalCount)

/-- R72, R73, R75, R82, R16: a step of a command issues at most one transaction, and what it writes to
the PHY is exactly the word its procedure gives, at the address its procedure gives. That the step
that begins an accepted command also performs its first primitive is the model's reading of R16 and
R142 (log 8). -/
def Obligations.ExecStores : Prop :=
  (∀ (i : Instr) (a d : Word) (inv : Invocation) (s : State), Running i a d inv s →
    ∃ t es, exec i s = .next t ∧ t.trace = es ++ s.trace ∧ transactions es ≤ 1 ∧
      es.filter isStore = storeEvents (storeOf i a d inv s) (replyAt s 0)) ∧
  (∀ (i : Instr) (a d : Word) (s : State), Ready i a d s →
    ∃ t es, exec i s = .next t ∧
      t.trace = es ++ .began .host (kindOf i) (laneOperand i) :: s.trace ∧ transactions es ≤ 1 ∧
      es.filter isStore = storeEvents (storeOf i a d (startOf i a d) s) (replyAt s 0))

/-- R343: a command waits while another invocation holds the sequencer. That `exec` leaves the state
alone is the model's form of waiting (log 20). -/
def Obligations.CommandWaits : Prop :=
  ∀ (i : Instr) (inv : Invocation) (ag : Agent) (s : State), s.lock = some ag → s.inv = some inv →
    (∀ a d, inv.proc ≠ .command i a d) → exec i s = .next s

/-! ## The Lock Monitor -/

/-- R294: when the timer's move makes a tick due. The clock `now` is the model's (log 7), and its
unit is log 6's. -/
def Obligations.TimerMakesDue : Prop :=
  ∀ s : State, nextMove s = .timer →
    (s.monArmed = true ∧ s.monDue = false ∧ s.lock ≠ some .monitor ∧
        s.monRef + s.monPeriod ≤ s.now →
      step s = .next { takeTurn s with monDue := true }) ∧
    (¬ (s.monArmed = true ∧ s.monDue = false ∧ s.lock ≠ some .monitor ∧
        s.monRef + s.monPeriod ≤ s.now) →
      step s = .next (takeTurn s))

/-- R295, R304: a due tick that is granted the sequencer reads the four lock bits in lane order and
shows them in MON_SAMPLE; with all four set, it ends with those four reads and the next tick is
counted from there (R297); else the first recovery that R296 selects begins, its lane drawn. How the
steps are counted is the model's reading of R16 (logs 8, 10), and the form of the draws is the model's
(logs 16, 29). -/
def Obligations.TickSamples : Prop :=
  ∀ (f : Nat → Word) (n0 n1 n2 n3 n4 : Lane) (more : List Agent) (rest : List Move) (s : State),
    let c := cfgOf s
    let b := fun k => (f k).getLsbD c.bLock
    let reads := readEvents c.baseTxpllStat [.l0, .l1, .l2, .l3] f
    let sel := recoveriesOf (b 0) (b 1) (b 2) (b 3)
    let first := pickRecovery n3 sel
    s.lock = none → s.monDue = true → Answered s 4 f → s.grants = .monitor :: more →
    s.agenda = .sequencer n0 :: .sequencer n1 :: .sequencer n2 :: .sequencer n3
      :: .sequencer n4 :: rest →
    (∃ t inv, stepTimes 4 s = .next t ∧
      t.monDue = false ∧ t.lock = some .monitor ∧ t.inv = some inv ∧ inv.pos = .run 0 ∧
      (sel = [] → inv.proc = .tick .finish ∧
        t.trace = reads.reverse ++ .began .monitor .tick none :: s.trace) ∧
      (sel ≠ [] → inv.proc = .tick (.recover first (sel.erase first)) ∧
        t.trace = .began .monitor .recover (some first)
          :: (reads.reverse ++ .began .monitor .tick none :: s.trace)) ∧
      t.monSample = (if b 0 then 0x0001#16 else 0) ||| (if b 1 then 0x0002#16 else 0)
        ||| (if b 2 then 0x0004#16 else 0) ||| (if b 3 then 0x0008#16 else 0) ||| 0x0010#16
        ||| (if b 0 || b 1 || b 2 || b 3 then 0 else 0x0020#16) ∧
      t.vco = s.vco ∧ t.fsm = s.fsm ∧ t.bound = s.bound ∧ t.monArmed = s.monArmed) ∧
    (b 0 = true → b 1 = true → b 2 = true → b 3 = true →
      stepTimes 5 s = .next
        { s with
          trace := .ended .monitor .tick none .success
            :: (reads.reverse ++ .began .monitor .tick none :: s.trace)
          monDue := false, monSample := 0x001F#16, monRef := s.now, lock := none, inv := none
          phy := s.phy.drop 4, draws := s.draws + 4, agenda := rest, turn := s.turn + 5
          grants := more })

/-- R296: the recoveries a sample selects, and their order. How the order is drawn is the model's
(log 16). -/
def Obligations.RecoverySelection : Prop :=
  (∀ b0 b1 b2 b3 : Bool,
    (b0 = false ∧ b1 = false ∧ b2 = false ∧ b3 = false →
      recoveriesOf b0 b1 b2 b3 = [.allLanes]) ∧
    (¬ (b0 = false ∧ b1 = false ∧ b2 = false ∧ b3 = false) →
      recoveriesOf b0 b1 b2 b3 =
        (([(b0, Lane.l0), (b1, .l1), (b2, .l2), (b3, .l3)].filter fun p => !p.1).map
          fun p => LaneId.lane p.2))) ∧
  (∀ (left : List LaneId) (l : Lane), .lane l ∈ left → pickRecovery l left = .lane l) ∧
  (∀ (left : List LaneId) (next : Lane), left ≠ [] → pickRecovery next left ∈ left)

/-- R262, R295, R297: inside a tick a recovery's first transaction enters ResetAsserted for its lane
and the Monitor; the tick's final step ends it with Success, whatever the recoveries' outcomes were
and whether or not the monitor is still armed, and counts the next tick from now; where the last
recovery is over, that step holds its end too: Locked or Failed with its outcome, its End event, and a
Log event for a failure. Which step holds each update is the model's reading of R16 (log 10). -/
def Obligations.TickChooses : Prop :=
  ∀ (inv : Invocation) (next : Lane) (s : State),
    s.lock = some .monitor → s.inv = some inv → nextMove s = .sequencer next →
    (inv.proc = .tick .finish → step s = .next (tickEnd .success (takeTurn s))) ∧
    (∀ L o, inv.proc = .tick (.recover L []) →
      endOf (recoverCode (cfgOf s) L .monitor) inv.pos = some o →
      step s = .next (tickEnd .success (recovered L o (takeTurn s)))) ∧
    (∀ L left v, inv.proc = .tick (.recover L left) → inv.pos = .run 0 → replyAt s 0 = .ok v →
      ∃ t inv' e, step s = .next t ∧ t.trace = e :: s.trace ∧ isTransaction e = true ∧
        isFailure e = false ∧ t.lock = some .monitor ∧ t.inv = some inv' ∧
        inv'.proc = .tick (.recover L left) ∧ inv'.pos = .run 1 ∧ t.fsm = .resetAsserted ∧
        t.target = some L ∧ t.agent = .monitor ∧ t.reason = none)

/-- R295: a failed sampling read, the first one in the step of the grant (log 8) or a later one, ends
the tick with TransportError, logged, no recovery run and MON_SAMPLE unchanged; the next tick is
counted from now. -/
def Obligations.SamplingFailure : Prop :=
  (∀ (next : Lane) (rest : List Agent) (s : State),
    s.lock = none → nextMove s = .sequencer next →
    grantChoice (takeTurn s) = some (.monitor, rest) → replyAt s 0 = .fail →
    step s = .next
      { takeTurn s with
        trace := .ended .monitor .tick none .transportError
          :: .logged .monitor none .transportError
          :: .rdFail (laneAddr (cfgOf s).baseTxpllStat .l0) :: .began .monitor .tick none :: s.trace
        monDue := false, transportFault := true, monRef := s.now, lock := none, inv := none
        phy := s.phy.tail, draws := s.draws + 1, grants := rest }) ∧
  (∀ (taken : List Bool) (inv : Invocation) (next : Lane) (s : State),
    s.lock = some .monitor → s.inv = some inv → inv.proc = .tick (.sample taken) →
    nextMove s = .sequencer next → replyAt s 0 = .fail →
    ∃ e, isFailure e = true ∧ step s = .next
      { takeTurn s with
        trace := .ended .monitor .tick none .transportError
          :: .logged .monitor none .transportError :: e :: s.trace
        transportFault := true, monRef := s.now, lock := none, inv := none
        phy := s.phy.tail, draws := s.draws + 1 })

/-- R298, R333, R348: a failed transaction inside a monitor recovery, its first one included, ends
that recovery only: FSM shows Failed(TransportError), the failure is logged, and the tick goes on to
the recoveries left, the next one drawn and begun (R296), or else to its final step. That the
recovery's end and the next Begin share the failed transaction's step is the model's reading of R16
and R333 (log 10). How a recovery ends without a failed transaction is said by
InvocationsRefineReference. -/
def Obligations.MonitorRecoveryFails : Prop :=
  ∀ (L : LaneId) (left : List LaneId) (inv : Invocation) (n : Nat) (op : MicroOp)
    (next : Lane) (s : State), s.lock = some .monitor → s.inv = some inv →
    inv.proc = .tick (.recover L left) → inv.pos = .run n →
    (recoverCode (cfgOf s) L .monitor)[n]? = some op → (∀ t back, op.act ≠ .wait t back) →
    nextMove s = .sequencer next → replyAt s 0 = .fail →
    let following := pickRecovery next left
    ∃ t e inv', step s = .next t ∧ isFailure e = true ∧
      t.trace = (if left = [] then [] else [.began .monitor .recover (some following)])
        ++ .logged .monitor (some L) .transportError
        :: .ended .monitor .recover (some L) .transportError :: e :: s.trace ∧
      t.fsm = .failed ∧ t.reason = some .transportError ∧ t.target = (if n = 0 then some L else s.target) ∧
      t.transportFault = true ∧ t.lock = some .monitor ∧ t.inv = some inv' ∧ inv'.pos = .run 0 ∧
      inv'.proc = .tick
        (if left = [] then .finish else .recover following (left.erase following)) ∧
      t.monArmed = s.monArmed ∧ t.monPeriod = s.monPeriod ∧ t.vco = s.vco

/-- R302: DETACH's completion leaves the block quiet, and it stays quiet, with no Begin of the
monitor or of an interrupt retry, until the next successful PROBE. -/
def Obligations.TeardownQuiet : Prop :=
  (∀ (a d : Word) (s t : State), Inv s → Ready .detach a d s → exec .detach s = .next t →
    Quiet t) ∧
  (∀ s t : State, Inv s → Quiet s → step s = .next t → t.bound = false →
    Quiet t ∧
    ((∀ l2 l3, nextMove s ≠ .reset l2 l3) → ∃ es, t.trace = es ++ s.trace ∧
      ∀ ag k L, .began ag k L ∈ es → ag = .host))

/-! ## The interrupt retry -/

/-- R299: a sample of an interrupt input: a falling edge starts a burst, or is latched once while
one is active, and is ignored while unbound or after DETACH is accepted. That a sample is a move of
the environment is the model's (log 19). -/
def Obligations.FallingEdge : Prop :=
  ∀ (l : IrqLane) (level : Bool) (s : State), nextMove s = .irqSample l level →
    let x := irqGet s l
    let falls := x.level = true ∧ level = false ∧ s.bound = true ∧ detachAccepted s = false
    ((cfgOf s).hasIrqRetry = false → step s = .next (takeTurn s)) ∧
    ((cfgOf s).hasIrqRetry = true → ¬ falls →
      step s = .next (irqSet l { x with level := level } (takeTurn s))) ∧
    ((cfgOf s).hasIrqRetry = true → falls → x.active = false →
      step s = .next (irqSet l { x with level := false, active := true, attempts := 0 }
        (takeTurn s))) ∧
    ((cfgOf s).hasIrqRetry = true → falls → x.active = true →
      step s = .next (irqSet l { x with level := false, pending := true } (takeTurn s)))

/-- R300: the grant of an interrupt retry: an attempt begins, counted, with its first write; where
that write fails, FP returns TransportError to the attempt, which logs it (R333); or the burst ends
with no transaction when the block is unbound or DETACH is accepted. That the granted step also
performs the attempt's first write is the model's reading of R16 (log 8); that the Log event of a
failed first write stands in that step too, also where no primitive follows it (the eighth attempt, or
a retry delay of 0), is its reading of R16, R300 and R333 (log 11); and that a burst without an attempt
ends in the step of the grant is its reading of R300 (log 25). -/
def Obligations.AttemptBegins : Prop :=
  ∀ (l : IrqLane) (next : Lane) (rest : List Agent) (s : State), s.lock = none →
    nextMove s = .sequencer next → grantChoice (takeTurn s) = some (irqAgent l, rest) →
    let x := irqGet s l
    let lane := irqLaneOf l
    let a := laneAddr (cfgOf s).baseFaCtrl lane
    (s.bound = false ∨ detachAccepted s = true →
      step s = .next (burstEnd l false { takeTurn s with grants := rest })) ∧
    (s.bound = true → detachAccepted s = false →
      ∃ t inv, step s = .next t ∧ t.lock = some (irqAgent l) ∧ t.inv = some inv ∧
        inv.proc = .irqRetry l ∧ irqGet t l = { x with attempts := x.attempts + 1 } ∧
        t.fsm = s.fsm ∧ t.vco = s.vco ∧ t.monArmed = s.monArmed ∧ t.monDue = s.monDue ∧
        t.grants = rest ∧
        (∀ v, replyAt s 0 = .ok v → inv.pos = .run 1 ∧
          t.transportFault = s.transportFault ∧
          t.trace = .wr a (cfgOf s).patFaEnable
            :: .began (irqAgent l) .irqRetry (some (.lane lane)) :: s.trace) ∧
        (replyAt s 0 = .fail → inv.pos = .returned .transportError ∧
          t.transportFault = true ∧
          t.trace = .logged (irqAgent l) (some (.lane lane)) .transportError
            :: .wrFail a (cfgOf s).patFaEnable
            :: .began (irqAgent l) .irqRetry (some (.lane lane)) :: s.trace))

/-- R300, R333: how an attempt ends: with Success the burst ends well; a failed transaction makes FP
return TransportError, logged in that step (R16; log 11); a failed attempt is delayed while attempts
remain, but not where the delay is 0 (R12; log 27), and the eighth ends the burst. A pending edge
starts the next burst. -/
def Obligations.AttemptEnds : Prop :=
  ∀ (l : IrqLane) (inv : Invocation) (next : Lane) (s : State),
    s.lock = some (irqAgent l) → s.inv = some inv → inv.proc = .irqRetry l →
    nextMove s = .sequencer next →
    let x := irqGet s l
    let L := some (LaneId.lane (irqLaneOf l))
    let ended := fun (o : RecoveryOutcome) =>
      { takeTurn s with
        trace := .ended (irqAgent l) .irqRetry L o :: s.trace, lock := none, inv := none }
    (∀ n, inv.pos = .run n → (fpCode (cfgOf s) (.lane (irqLaneOf l)))[n]? = none →
      step s = .next (burstEnd l true (ended .success))) ∧
    (∀ n op, inv.pos = .run n → (fpCode (cfgOf s) (.lane (irqLaneOf l)))[n]? = some op →
      (∀ t back, op.act ≠ .wait t back) → replyAt s 0 = .fail →
      ∃ e, isFailure e = true ∧ step s = .next
        { takeTurn s with
          trace := .logged (irqAgent l) L .transportError :: e :: s.trace
          transportFault := true
          inv := some { inv with pos := .returned .transportError }
          phy := s.phy.tail, draws := s.draws + 1 }) ∧
    (∀ o, inv.pos = .returned o → o ≠ .success → x.attempts < 8 → (cfgOf s).tIrqRetry ≠ 0 →
      step s = .next
        { takeTurn s with
          trace := .wait .tIrqRetry :: s.trace
          now := s.now + (cfgOf s).tIrqRetry
          inv := some { inv with pos := .retried o } }) ∧
    (∀ o, inv.pos = .returned o → o ≠ .success → x.attempts < 8 → (cfgOf s).tIrqRetry = 0 →
      step s = .next (ended o)) ∧
    (∀ o, inv.pos = .retried o → o ≠ .success → x.attempts < 8 → step s = .next (ended o)) ∧
    (∀ o, inv.pos = .returned o → o ≠ .success → x.attempts = 8 →
      step s = .next (burstEnd l false (ended o)))

/-- R342, R343: a free sequencer grants exactly one of the pending requests, and each of the four
requesters can be the one, for the choice is a draw; a request that is granted begins its invocation.
R343's weak fairness: a request that stays pending is granted, or an invocation never ends. The form
of the draw, and that the sequencer moves again and again, are the model's (logs 3, 29). -/
def Obligations.AnyRequesterGranted : Prop :=
  (∀ (next : Lane) (s : State), s.lock = none → nextMove s = .sequencer next →
    ((∀ ag, requests s ag = false) → step s = .next (takeTurn s)) ∧
    ((∃ ag, requests s ag = true) → ∃ ag, grantedAt s = some ag ∧ requests s ag = true) ∧
    (∀ ag rest, requests s ag = true → s.grants = ag :: rest → grantedAt s = some ag) ∧
    (∀ h, grantedAt s = some .host → s.hostCmd = some h → ∃ t es, step s = .next t ∧
      t.trace = es ++ .began .host (kindOf h.cmd) (laneOperand h.cmd) :: s.trace) ∧
    (grantedAt s = some .monitor → ∃ t es, step s = .next t ∧
      t.trace = es ++ .began .monitor .tick none :: s.trace) ∧
    (∀ l, grantedAt s = some (irqAgent l) → s.bound = true → detachAccepted s = false →
      ∃ t es, step s = .next t ∧
        t.trace = es ++ .began (irqAgent l) .irqRetry (some (.lane (irqLaneOf l))) :: s.trace)) ∧
  (∀ (s : State) (ag : Agent), requests s ag = true →
    (∃ n t, stepTimes n s = .next t ∧ (requests t ag = false ∨ grantedAt t = some ag)) ∨
    (∃ n, ∀ m t, n ≤ m → stepTimes m s = .next t → t.lock ≠ none))

/-! ## The block's own invocations, whole -/

/-- The monitor's recoveries are RECOVER and the interrupt attempts are FP, whatever the PHY answers:
where the spec's pseudocode ends, the sequencer's moves leave the same state. R262, R295, R298: a
recovery inside a tick, from its Begin event on, ends with the outcome of the pseudocode, Locked or
Failed with it, its End event and, for a failure, a Log event; then the next recovery begins, or the
tick ends with Success. R300, R333: an attempt, from its grant on, runs FP and ends as R300 says. How
the steps are counted is the model's reading of R16 (logs 8, 9, 10, 11). -/
def Obligations.InvocationsRefineReference : Prop :=
  (∀ (fuel : Nat) (L : LaneId) (left : List LaneId) (next : Lane) (inv : Invocation)
    (r : Except RecoveryOutcome Unit) (s t : State),
    s.lock = some .monitor → s.inv = some inv → inv.proc = .tick (.recover L left) →
    inv.pos = .run 0 → recover fuel (cfgOf s) L .monitor s = some (r, t) →
    let following := pickRecovery next left
    let u := recovered L (resultOf r) t
    ∃ n, (left = [] → sequencerTimes n next s = .next (tickEnd .success u)) ∧
      (left ≠ [] → ∃ inv', inv'.pos = .run 0 ∧
        inv'.proc = .tick (.recover following (left.erase following)) ∧
        sequencerTimes n next s = .next
          { u with
            trace := .began .monitor .recover (some following) :: u.trace, inv := some inv' })) ∧
  (∀ (l : IrqLane) (next : Lane) (rest : List Agent) (r : Except RecoveryOutcome Unit)
    (s t : State),
    s.lock = none → grantChoice s = some (irqAgent l, rest) → s.bound = true →
    detachAccepted s = false →
    freqPll (cfgOf s) (.lane (irqLaneOf l))
      (irqSet l { irqGet s l with attempts := (irqGet s l).attempts + 1 }
        { s with
          trace := .began (irqAgent l) .irqRetry (some (.lane (irqLaneOf l))) :: s.trace
          grants := rest }) = some (r, t) →
    (irqGet s l).attempts < 8 →
    ∃ n, sequencerTimes n next s = .next (attemptEnd l (resultOf r) t))
end

