-- ==== Sys2Proof/Laws/State.lean ====
section
/-! SUPPORT. What each named update leaves in each field of `State`. -/

namespace Sys2Proof.Machine

/-! ## `record` -/

@[simp] theorem record_conf (e : Event) (s : State) : (record e s).conf = s.conf := rfl
@[simp] theorem record_cmd (e : Event) (s : State) : (record e s).cmd = s.cmd := rfl
@[simp] theorem record_argAddr (e : Event) (s : State) : (record e s).argAddr = s.argAddr := rfl
@[simp] theorem record_argData (e : Event) (s : State) : (record e s).argData = s.argData := rfl
@[simp] theorem record_result (e : Event) (s : State) : (record e s).result = s.result := rfl
@[simp] theorem record_resultHi (e : Event) (s : State) : (record e s).resultHi = s.resultHi := rfl
@[simp] theorem record_busy (e : Event) (s : State) : (record e s).busy = s.busy := rfl
@[simp] theorem record_doneFlag (e : Event) (s : State) : (record e s).doneFlag = s.doneFlag := rfl
@[simp] theorem record_cmdRefused (e : Event) (s : State) :
    (record e s).cmdRefused = s.cmdRefused := rfl
@[simp] theorem record_cmdOverrun (e : Event) (s : State) :
    (record e s).cmdOverrun = s.cmdOverrun := rfl
@[simp] theorem record_outcome (e : Event) (s : State) : (record e s).outcome = s.outcome := rfl
@[simp] theorem record_refuseReason (e : Event) (s : State) :
    (record e s).refuseReason = s.refuseReason := rfl
@[simp] theorem record_monSample (e : Event) (s : State) :
    (record e s).monSample = s.monSample := rfl
@[simp] theorem record_vco (e : Event) (s : State) : (record e s).vco = s.vco := rfl
@[simp] theorem record_fsm (e : Event) (s : State) : (record e s).fsm = s.fsm := rfl
@[simp] theorem record_reason (e : Event) (s : State) : (record e s).reason = s.reason := rfl
@[simp] theorem record_target (e : Event) (s : State) : (record e s).target = s.target := rfl
@[simp] theorem record_agent (e : Event) (s : State) : (record e s).agent = s.agent := rfl
@[simp] theorem record_inv (e : Event) (s : State) : (record e s).inv = s.inv := rfl
@[simp] theorem record_lock (e : Event) (s : State) : (record e s).lock = s.lock := rfl
@[simp] theorem record_hostCmd (e : Event) (s : State) : (record e s).hostCmd = s.hostCmd := rfl
@[simp] theorem record_azCount (e : Event) (s : State) : (record e s).azCount = s.azCount := rfl
@[simp] theorem record_regcalCount (e : Event) (s : State) :
    (record e s).regcalCount = s.regcalCount := rfl
@[simp] theorem record_bound (e : Event) (s : State) : (record e s).bound = s.bound := rfl
@[simp] theorem record_transportFault (e : Event) (s : State) :
    (record e s).transportFault = s.transportFault := rfl
@[simp] theorem record_monArmed (e : Event) (s : State) : (record e s).monArmed = s.monArmed := rfl
@[simp] theorem record_monDue (e : Event) (s : State) : (record e s).monDue = s.monDue := rfl
@[simp] theorem record_monRef (e : Event) (s : State) : (record e s).monRef = s.monRef := rfl
@[simp] theorem record_monPeriod (e : Event) (s : State) :
    (record e s).monPeriod = s.monPeriod := rfl
@[simp] theorem record_irq2 (e : Event) (s : State) : (record e s).irq2 = s.irq2 := rfl
@[simp] theorem record_irq3 (e : Event) (s : State) : (record e s).irq3 = s.irq3 := rfl
@[simp] theorem record_trace (e : Event) (s : State) : (record e s).trace = e :: s.trace := rfl
@[simp] theorem record_now (e : Event) (s : State) : (record e s).now = s.now := rfl
@[simp] theorem record_agenda (e : Event) (s : State) : (record e s).agenda = s.agenda := rfl
@[simp] theorem record_turn (e : Event) (s : State) : (record e s).turn = s.turn := rfl
@[simp] theorem record_phy (e : Event) (s : State) : (record e s).phy = s.phy := rfl
@[simp] theorem record_draws (e : Event) (s : State) : (record e s).draws = s.draws := rfl
@[simp] theorem record_hostProg (e : Event) (s : State) : (record e s).hostProg = s.hostProg := rfl
@[simp] theorem record_grants (e : Event) (s : State) : (record e s).grants = s.grants := rfl

/-! ## `withInv` -/

@[simp] theorem withInv_conf (x : Invocation) (s : State) : (withInv x s).conf = s.conf := rfl
@[simp] theorem withInv_cmd (x : Invocation) (s : State) : (withInv x s).cmd = s.cmd := rfl
@[simp] theorem withInv_argAddr (x : Invocation) (s : State) :
    (withInv x s).argAddr = s.argAddr := rfl
@[simp] theorem withInv_argData (x : Invocation) (s : State) :
    (withInv x s).argData = s.argData := rfl
@[simp] theorem withInv_result (x : Invocation) (s : State) : (withInv x s).result = s.result := rfl
@[simp] theorem withInv_resultHi (x : Invocation) (s : State) :
    (withInv x s).resultHi = s.resultHi := rfl
@[simp] theorem withInv_busy (x : Invocation) (s : State) : (withInv x s).busy = s.busy := rfl
@[simp] theorem withInv_doneFlag (x : Invocation) (s : State) :
    (withInv x s).doneFlag = s.doneFlag := rfl
@[simp] theorem withInv_cmdRefused (x : Invocation) (s : State) :
    (withInv x s).cmdRefused = s.cmdRefused := rfl
@[simp] theorem withInv_cmdOverrun (x : Invocation) (s : State) :
    (withInv x s).cmdOverrun = s.cmdOverrun := rfl
@[simp] theorem withInv_outcome (x : Invocation) (s : State) :
    (withInv x s).outcome = s.outcome := rfl
@[simp] theorem withInv_refuseReason (x : Invocation) (s : State) :
    (withInv x s).refuseReason = s.refuseReason := rfl
@[simp] theorem withInv_monSample (x : Invocation) (s : State) :
    (withInv x s).monSample = s.monSample := rfl
@[simp] theorem withInv_vco (x : Invocation) (s : State) : (withInv x s).vco = s.vco := rfl
@[simp] theorem withInv_fsm (x : Invocation) (s : State) : (withInv x s).fsm = s.fsm := rfl
@[simp] theorem withInv_reason (x : Invocation) (s : State) : (withInv x s).reason = s.reason := rfl
@[simp] theorem withInv_target (x : Invocation) (s : State) : (withInv x s).target = s.target := rfl
@[simp] theorem withInv_agent (x : Invocation) (s : State) : (withInv x s).agent = s.agent := rfl
@[simp] theorem withInv_inv (x : Invocation) (s : State) : (withInv x s).inv = some x := rfl
@[simp] theorem withInv_lock (x : Invocation) (s : State) : (withInv x s).lock = s.lock := rfl
@[simp] theorem withInv_hostCmd (x : Invocation) (s : State) :
    (withInv x s).hostCmd = s.hostCmd := rfl
@[simp] theorem withInv_azCount (x : Invocation) (s : State) :
    (withInv x s).azCount = s.azCount := rfl
@[simp] theorem withInv_regcalCount (x : Invocation) (s : State) :
    (withInv x s).regcalCount = s.regcalCount := rfl
@[simp] theorem withInv_bound (x : Invocation) (s : State) : (withInv x s).bound = s.bound := rfl
@[simp] theorem withInv_transportFault (x : Invocation) (s : State) :
    (withInv x s).transportFault = s.transportFault := rfl
@[simp] theorem withInv_monArmed (x : Invocation) (s : State) :
    (withInv x s).monArmed = s.monArmed := rfl
@[simp] theorem withInv_monDue (x : Invocation) (s : State) : (withInv x s).monDue = s.monDue := rfl
@[simp] theorem withInv_monRef (x : Invocation) (s : State) : (withInv x s).monRef = s.monRef := rfl
@[simp] theorem withInv_monPeriod (x : Invocation) (s : State) :
    (withInv x s).monPeriod = s.monPeriod := rfl
@[simp] theorem withInv_irq2 (x : Invocation) (s : State) : (withInv x s).irq2 = s.irq2 := rfl
@[simp] theorem withInv_irq3 (x : Invocation) (s : State) : (withInv x s).irq3 = s.irq3 := rfl
@[simp] theorem withInv_trace (x : Invocation) (s : State) : (withInv x s).trace = s.trace := rfl
@[simp] theorem withInv_now (x : Invocation) (s : State) : (withInv x s).now = s.now := rfl
@[simp] theorem withInv_agenda (x : Invocation) (s : State) : (withInv x s).agenda = s.agenda := rfl
@[simp] theorem withInv_turn (x : Invocation) (s : State) : (withInv x s).turn = s.turn := rfl
@[simp] theorem withInv_phy (x : Invocation) (s : State) : (withInv x s).phy = s.phy := rfl
@[simp] theorem withInv_draws (x : Invocation) (s : State) : (withInv x s).draws = s.draws := rfl
@[simp] theorem withInv_hostProg (x : Invocation) (s : State) :
    (withInv x s).hostProg = s.hostProg := rfl
@[simp] theorem withInv_grants (x : Invocation) (s : State) :
    (withInv x s).grants = s.grants := rfl

/-! ## `goTo` -/

@[simp] theorem goTo_conf (p : Position) (x : Invocation) (s : State) :
    (goTo p x s).conf = s.conf := rfl
@[simp] theorem goTo_cmd (p : Position) (x : Invocation) (s : State) :
    (goTo p x s).cmd = s.cmd := rfl
@[simp] theorem goTo_argAddr (p : Position) (x : Invocation) (s : State) :
    (goTo p x s).argAddr = s.argAddr := rfl
@[simp] theorem goTo_argData (p : Position) (x : Invocation) (s : State) :
    (goTo p x s).argData = s.argData := rfl
@[simp] theorem goTo_result (p : Position) (x : Invocation) (s : State) :
    (goTo p x s).result = s.result := rfl
@[simp] theorem goTo_resultHi (p : Position) (x : Invocation) (s : State) :
    (goTo p x s).resultHi = s.resultHi := rfl
@[simp] theorem goTo_busy (p : Position) (x : Invocation) (s : State) :
    (goTo p x s).busy = s.busy := rfl
@[simp] theorem goTo_doneFlag (p : Position) (x : Invocation) (s : State) :
    (goTo p x s).doneFlag = s.doneFlag := rfl
@[simp] theorem goTo_cmdRefused (p : Position) (x : Invocation) (s : State) :
    (goTo p x s).cmdRefused = s.cmdRefused := rfl
@[simp] theorem goTo_cmdOverrun (p : Position) (x : Invocation) (s : State) :
    (goTo p x s).cmdOverrun = s.cmdOverrun := rfl
@[simp] theorem goTo_outcome (p : Position) (x : Invocation) (s : State) :
    (goTo p x s).outcome = s.outcome := rfl
@[simp] theorem goTo_refuseReason (p : Position) (x : Invocation) (s : State) :
    (goTo p x s).refuseReason = s.refuseReason := rfl
@[simp] theorem goTo_monSample (p : Position) (x : Invocation) (s : State) :
    (goTo p x s).monSample = s.monSample := rfl
@[simp] theorem goTo_vco (p : Position) (x : Invocation) (s : State) :
    (goTo p x s).vco = s.vco := rfl
@[simp] theorem goTo_fsm (p : Position) (x : Invocation) (s : State) :
    (goTo p x s).fsm = s.fsm := rfl
@[simp] theorem goTo_reason (p : Position) (x : Invocation) (s : State) :
    (goTo p x s).reason = s.reason := rfl
@[simp] theorem goTo_target (p : Position) (x : Invocation) (s : State) :
    (goTo p x s).target = s.target := rfl
@[simp] theorem goTo_agent (p : Position) (x : Invocation) (s : State) :
    (goTo p x s).agent = s.agent := rfl
@[simp] theorem goTo_inv (p : Position) (x : Invocation) (s : State) :
    (goTo p x s).inv = some { x with pos := p } := rfl
@[simp] theorem goTo_lock (p : Position) (x : Invocation) (s : State) :
    (goTo p x s).lock = s.lock := rfl
@[simp] theorem goTo_hostCmd (p : Position) (x : Invocation) (s : State) :
    (goTo p x s).hostCmd = s.hostCmd := rfl
@[simp] theorem goTo_azCount (p : Position) (x : Invocation) (s : State) :
    (goTo p x s).azCount = s.azCount := rfl
@[simp] theorem goTo_regcalCount (p : Position) (x : Invocation) (s : State) :
    (goTo p x s).regcalCount = s.regcalCount := rfl
@[simp] theorem goTo_bound (p : Position) (x : Invocation) (s : State) :
    (goTo p x s).bound = s.bound := rfl
@[simp] theorem goTo_transportFault (p : Position) (x : Invocation) (s : State) :
    (goTo p x s).transportFault = s.transportFault := rfl
@[simp] theorem goTo_monArmed (p : Position) (x : Invocation) (s : State) :
    (goTo p x s).monArmed = s.monArmed := rfl
@[simp] theorem goTo_monDue (p : Position) (x : Invocation) (s : State) :
    (goTo p x s).monDue = s.monDue := rfl
@[simp] theorem goTo_monRef (p : Position) (x : Invocation) (s : State) :
    (goTo p x s).monRef = s.monRef := rfl
@[simp] theorem goTo_monPeriod (p : Position) (x : Invocation) (s : State) :
    (goTo p x s).monPeriod = s.monPeriod := rfl
@[simp] theorem goTo_irq2 (p : Position) (x : Invocation) (s : State) :
    (goTo p x s).irq2 = s.irq2 := rfl
@[simp] theorem goTo_irq3 (p : Position) (x : Invocation) (s : State) :
    (goTo p x s).irq3 = s.irq3 := rfl
@[simp] theorem goTo_trace (p : Position) (x : Invocation) (s : State) :
    (goTo p x s).trace = s.trace := rfl
@[simp] theorem goTo_now (p : Position) (x : Invocation) (s : State) :
    (goTo p x s).now = s.now := rfl
@[simp] theorem goTo_agenda (p : Position) (x : Invocation) (s : State) :
    (goTo p x s).agenda = s.agenda := rfl
@[simp] theorem goTo_turn (p : Position) (x : Invocation) (s : State) :
    (goTo p x s).turn = s.turn := rfl
@[simp] theorem goTo_phy (p : Position) (x : Invocation) (s : State) :
    (goTo p x s).phy = s.phy := rfl
@[simp] theorem goTo_draws (p : Position) (x : Invocation) (s : State) :
    (goTo p x s).draws = s.draws := rfl
@[simp] theorem goTo_hostProg (p : Position) (x : Invocation) (s : State) :
    (goTo p x s).hostProg = s.hostProg := rfl
@[simp] theorem goTo_grants (p : Position) (x : Invocation) (s : State) :
    (goTo p x s).grants = s.grants := rfl

/-! ## `release` -/

@[simp] theorem release_conf (s : State) : (release s).conf = s.conf := rfl
@[simp] theorem release_cmd (s : State) : (release s).cmd = s.cmd := rfl
@[simp] theorem release_argAddr (s : State) : (release s).argAddr = s.argAddr := rfl
@[simp] theorem release_argData (s : State) : (release s).argData = s.argData := rfl
@[simp] theorem release_result (s : State) : (release s).result = s.result := rfl
@[simp] theorem release_resultHi (s : State) : (release s).resultHi = s.resultHi := rfl
@[simp] theorem release_busy (s : State) : (release s).busy = s.busy := rfl
@[simp] theorem release_doneFlag (s : State) : (release s).doneFlag = s.doneFlag := rfl
@[simp] theorem release_cmdRefused (s : State) : (release s).cmdRefused = s.cmdRefused := rfl
@[simp] theorem release_cmdOverrun (s : State) : (release s).cmdOverrun = s.cmdOverrun := rfl
@[simp] theorem release_outcome (s : State) : (release s).outcome = s.outcome := rfl
@[simp] theorem release_refuseReason (s : State) : (release s).refuseReason = s.refuseReason := rfl
@[simp] theorem release_monSample (s : State) : (release s).monSample = s.monSample := rfl
@[simp] theorem release_vco (s : State) : (release s).vco = s.vco := rfl
@[simp] theorem release_fsm (s : State) : (release s).fsm = s.fsm := rfl
@[simp] theorem release_reason (s : State) : (release s).reason = s.reason := rfl
@[simp] theorem release_target (s : State) : (release s).target = s.target := rfl
@[simp] theorem release_agent (s : State) : (release s).agent = s.agent := rfl
@[simp] theorem release_inv (s : State) : (release s).inv = none := rfl
@[simp] theorem release_lock (s : State) : (release s).lock = none := rfl
@[simp] theorem release_hostCmd (s : State) : (release s).hostCmd = s.hostCmd := rfl
@[simp] theorem release_azCount (s : State) : (release s).azCount = s.azCount := rfl
@[simp] theorem release_regcalCount (s : State) : (release s).regcalCount = s.regcalCount := rfl
@[simp] theorem release_bound (s : State) : (release s).bound = s.bound := rfl
@[simp] theorem release_transportFault (s : State) :
    (release s).transportFault = s.transportFault := rfl
@[simp] theorem release_monArmed (s : State) : (release s).monArmed = s.monArmed := rfl
@[simp] theorem release_monDue (s : State) : (release s).monDue = s.monDue := rfl
@[simp] theorem release_monRef (s : State) : (release s).monRef = s.monRef := rfl
@[simp] theorem release_monPeriod (s : State) : (release s).monPeriod = s.monPeriod := rfl
@[simp] theorem release_irq2 (s : State) : (release s).irq2 = s.irq2 := rfl
@[simp] theorem release_irq3 (s : State) : (release s).irq3 = s.irq3 := rfl
@[simp] theorem release_trace (s : State) : (release s).trace = s.trace := rfl
@[simp] theorem release_now (s : State) : (release s).now = s.now := rfl
@[simp] theorem release_agenda (s : State) : (release s).agenda = s.agenda := rfl
@[simp] theorem release_turn (s : State) : (release s).turn = s.turn := rfl
@[simp] theorem release_phy (s : State) : (release s).phy = s.phy := rfl
@[simp] theorem release_draws (s : State) : (release s).draws = s.draws := rfl
@[simp] theorem release_hostProg (s : State) : (release s).hostProg = s.hostProg := rfl
@[simp] theorem release_grants (s : State) : (release s).grants = s.grants := rfl

/-! ## `drawReply` -/

@[simp] theorem drawReply_conf (s : State) : (drawReply s).conf = s.conf := rfl
@[simp] theorem drawReply_cmd (s : State) : (drawReply s).cmd = s.cmd := rfl
@[simp] theorem drawReply_argAddr (s : State) : (drawReply s).argAddr = s.argAddr := rfl
@[simp] theorem drawReply_argData (s : State) : (drawReply s).argData = s.argData := rfl
@[simp] theorem drawReply_result (s : State) : (drawReply s).result = s.result := rfl
@[simp] theorem drawReply_resultHi (s : State) : (drawReply s).resultHi = s.resultHi := rfl
@[simp] theorem drawReply_busy (s : State) : (drawReply s).busy = s.busy := rfl
@[simp] theorem drawReply_doneFlag (s : State) : (drawReply s).doneFlag = s.doneFlag := rfl
@[simp] theorem drawReply_cmdRefused (s : State) : (drawReply s).cmdRefused = s.cmdRefused := rfl
@[simp] theorem drawReply_cmdOverrun (s : State) : (drawReply s).cmdOverrun = s.cmdOverrun := rfl
@[simp] theorem drawReply_outcome (s : State) : (drawReply s).outcome = s.outcome := rfl
@[simp] theorem drawReply_refuseReason (s : State) :
    (drawReply s).refuseReason = s.refuseReason := rfl
@[simp] theorem drawReply_monSample (s : State) : (drawReply s).monSample = s.monSample := rfl
@[simp] theorem drawReply_vco (s : State) : (drawReply s).vco = s.vco := rfl
@[simp] theorem drawReply_fsm (s : State) : (drawReply s).fsm = s.fsm := rfl
@[simp] theorem drawReply_reason (s : State) : (drawReply s).reason = s.reason := rfl
@[simp] theorem drawReply_target (s : State) : (drawReply s).target = s.target := rfl
@[simp] theorem drawReply_agent (s : State) : (drawReply s).agent = s.agent := rfl
@[simp] theorem drawReply_inv (s : State) : (drawReply s).inv = s.inv := rfl
@[simp] theorem drawReply_lock (s : State) : (drawReply s).lock = s.lock := rfl
@[simp] theorem drawReply_hostCmd (s : State) : (drawReply s).hostCmd = s.hostCmd := rfl
@[simp] theorem drawReply_azCount (s : State) : (drawReply s).azCount = s.azCount := rfl
@[simp] theorem drawReply_regcalCount (s : State) : (drawReply s).regcalCount = s.regcalCount := rfl
@[simp] theorem drawReply_bound (s : State) : (drawReply s).bound = s.bound := rfl
@[simp] theorem drawReply_transportFault (s : State) :
    (drawReply s).transportFault = s.transportFault := rfl
@[simp] theorem drawReply_monArmed (s : State) : (drawReply s).monArmed = s.monArmed := rfl
@[simp] theorem drawReply_monDue (s : State) : (drawReply s).monDue = s.monDue := rfl
@[simp] theorem drawReply_monRef (s : State) : (drawReply s).monRef = s.monRef := rfl
@[simp] theorem drawReply_monPeriod (s : State) : (drawReply s).monPeriod = s.monPeriod := rfl
@[simp] theorem drawReply_irq2 (s : State) : (drawReply s).irq2 = s.irq2 := rfl
@[simp] theorem drawReply_irq3 (s : State) : (drawReply s).irq3 = s.irq3 := rfl
@[simp] theorem drawReply_trace (s : State) : (drawReply s).trace = s.trace := rfl
@[simp] theorem drawReply_now (s : State) : (drawReply s).now = s.now := rfl
@[simp] theorem drawReply_agenda (s : State) : (drawReply s).agenda = s.agenda := rfl
@[simp] theorem drawReply_turn (s : State) : (drawReply s).turn = s.turn := rfl
@[simp] theorem drawReply_phy (s : State) : (drawReply s).phy = s.phy.tail := rfl
@[simp] theorem drawReply_draws (s : State) : (drawReply s).draws = s.draws + 1 := rfl
@[simp] theorem drawReply_hostProg (s : State) : (drawReply s).hostProg = s.hostProg := rfl
@[simp] theorem drawReply_grants (s : State) : (drawReply s).grants = s.grants := rfl

/-! ## `nextAttempt` -/

@[simp] theorem nextAttempt_conf (s : State) : (nextAttempt s).conf = s.conf := rfl
@[simp] theorem nextAttempt_cmd (s : State) : (nextAttempt s).cmd = s.cmd := rfl
@[simp] theorem nextAttempt_argAddr (s : State) : (nextAttempt s).argAddr = s.argAddr := rfl
@[simp] theorem nextAttempt_argData (s : State) : (nextAttempt s).argData = s.argData := rfl
@[simp] theorem nextAttempt_result (s : State) : (nextAttempt s).result = s.result := rfl
@[simp] theorem nextAttempt_resultHi (s : State) : (nextAttempt s).resultHi = s.resultHi := rfl
@[simp] theorem nextAttempt_busy (s : State) : (nextAttempt s).busy = s.busy := rfl
@[simp] theorem nextAttempt_doneFlag (s : State) : (nextAttempt s).doneFlag = s.doneFlag := rfl
@[simp] theorem nextAttempt_cmdRefused (s : State) : (nextAttempt s).cmdRefused = s.cmdRefused := rfl
@[simp] theorem nextAttempt_cmdOverrun (s : State) : (nextAttempt s).cmdOverrun = s.cmdOverrun := rfl
@[simp] theorem nextAttempt_outcome (s : State) : (nextAttempt s).outcome = s.outcome := rfl
@[simp] theorem nextAttempt_refuseReason (s : State) :
    (nextAttempt s).refuseReason = s.refuseReason := rfl
@[simp] theorem nextAttempt_monSample (s : State) : (nextAttempt s).monSample = s.monSample := rfl
@[simp] theorem nextAttempt_vco (s : State) : (nextAttempt s).vco = s.vco := rfl
@[simp] theorem nextAttempt_fsm (s : State) : (nextAttempt s).fsm = s.fsm := rfl
@[simp] theorem nextAttempt_reason (s : State) : (nextAttempt s).reason = s.reason := rfl
@[simp] theorem nextAttempt_target (s : State) : (nextAttempt s).target = s.target := rfl
@[simp] theorem nextAttempt_agent (s : State) : (nextAttempt s).agent = s.agent := rfl
@[simp] theorem nextAttempt_inv (s : State) : (nextAttempt s).inv = s.inv := rfl
@[simp] theorem nextAttempt_lock (s : State) : (nextAttempt s).lock = s.lock := rfl
@[simp] theorem nextAttempt_hostCmd (s : State) : (nextAttempt s).hostCmd = s.hostCmd := rfl
@[simp] theorem nextAttempt_azCount (s : State) :
    (nextAttempt s).azCount = s.azCount + 1 := rfl
@[simp] theorem nextAttempt_regcalCount (s : State) : (nextAttempt s).regcalCount = s.regcalCount := rfl
@[simp] theorem nextAttempt_bound (s : State) : (nextAttempt s).bound = s.bound := rfl
@[simp] theorem nextAttempt_transportFault (s : State) :
    (nextAttempt s).transportFault = s.transportFault := rfl
@[simp] theorem nextAttempt_monArmed (s : State) : (nextAttempt s).monArmed = s.monArmed := rfl
@[simp] theorem nextAttempt_monDue (s : State) : (nextAttempt s).monDue = s.monDue := rfl
@[simp] theorem nextAttempt_monRef (s : State) : (nextAttempt s).monRef = s.monRef := rfl
@[simp] theorem nextAttempt_monPeriod (s : State) : (nextAttempt s).monPeriod = s.monPeriod := rfl
@[simp] theorem nextAttempt_irq2 (s : State) : (nextAttempt s).irq2 = s.irq2 := rfl
@[simp] theorem nextAttempt_irq3 (s : State) : (nextAttempt s).irq3 = s.irq3 := rfl
@[simp] theorem nextAttempt_trace (s : State) : (nextAttempt s).trace = s.trace := rfl
@[simp] theorem nextAttempt_now (s : State) : (nextAttempt s).now = s.now := rfl
@[simp] theorem nextAttempt_agenda (s : State) : (nextAttempt s).agenda = s.agenda := rfl
@[simp] theorem nextAttempt_turn (s : State) : (nextAttempt s).turn = s.turn := rfl
@[simp] theorem nextAttempt_phy (s : State) : (nextAttempt s).phy = s.phy := rfl
@[simp] theorem nextAttempt_draws (s : State) : (nextAttempt s).draws = s.draws := rfl
@[simp] theorem nextAttempt_hostProg (s : State) : (nextAttempt s).hostProg = s.hostProg := rfl
@[simp] theorem nextAttempt_grants (s : State) : (nextAttempt s).grants = s.grants := rfl

/-! ## `takeTurn` -/

@[simp] theorem takeTurn_conf (s : State) : (takeTurn s).conf = s.conf := rfl
@[simp] theorem takeTurn_cmd (s : State) : (takeTurn s).cmd = s.cmd := rfl
@[simp] theorem takeTurn_argAddr (s : State) : (takeTurn s).argAddr = s.argAddr := rfl
@[simp] theorem takeTurn_argData (s : State) : (takeTurn s).argData = s.argData := rfl
@[simp] theorem takeTurn_result (s : State) : (takeTurn s).result = s.result := rfl
@[simp] theorem takeTurn_resultHi (s : State) : (takeTurn s).resultHi = s.resultHi := rfl
@[simp] theorem takeTurn_busy (s : State) : (takeTurn s).busy = s.busy := rfl
@[simp] theorem takeTurn_doneFlag (s : State) : (takeTurn s).doneFlag = s.doneFlag := rfl
@[simp] theorem takeTurn_cmdRefused (s : State) : (takeTurn s).cmdRefused = s.cmdRefused := rfl
@[simp] theorem takeTurn_cmdOverrun (s : State) : (takeTurn s).cmdOverrun = s.cmdOverrun := rfl
@[simp] theorem takeTurn_outcome (s : State) : (takeTurn s).outcome = s.outcome := rfl
@[simp] theorem takeTurn_refuseReason (s : State) :
    (takeTurn s).refuseReason = s.refuseReason := rfl
@[simp] theorem takeTurn_monSample (s : State) : (takeTurn s).monSample = s.monSample := rfl
@[simp] theorem takeTurn_vco (s : State) : (takeTurn s).vco = s.vco := rfl
@[simp] theorem takeTurn_fsm (s : State) : (takeTurn s).fsm = s.fsm := rfl
@[simp] theorem takeTurn_reason (s : State) : (takeTurn s).reason = s.reason := rfl
@[simp] theorem takeTurn_target (s : State) : (takeTurn s).target = s.target := rfl
@[simp] theorem takeTurn_agent (s : State) : (takeTurn s).agent = s.agent := rfl
@[simp] theorem takeTurn_inv (s : State) : (takeTurn s).inv = s.inv := rfl
@[simp] theorem takeTurn_lock (s : State) : (takeTurn s).lock = s.lock := rfl
@[simp] theorem takeTurn_hostCmd (s : State) : (takeTurn s).hostCmd = s.hostCmd := rfl
@[simp] theorem takeTurn_azCount (s : State) : (takeTurn s).azCount = s.azCount := rfl
@[simp] theorem takeTurn_regcalCount (s : State) : (takeTurn s).regcalCount = s.regcalCount := rfl
@[simp] theorem takeTurn_bound (s : State) : (takeTurn s).bound = s.bound := rfl
@[simp] theorem takeTurn_transportFault (s : State) :
    (takeTurn s).transportFault = s.transportFault := rfl
@[simp] theorem takeTurn_monArmed (s : State) : (takeTurn s).monArmed = s.monArmed := rfl
@[simp] theorem takeTurn_monDue (s : State) : (takeTurn s).monDue = s.monDue := rfl
@[simp] theorem takeTurn_monRef (s : State) : (takeTurn s).monRef = s.monRef := rfl
@[simp] theorem takeTurn_monPeriod (s : State) : (takeTurn s).monPeriod = s.monPeriod := rfl
@[simp] theorem takeTurn_irq2 (s : State) : (takeTurn s).irq2 = s.irq2 := rfl
@[simp] theorem takeTurn_irq3 (s : State) : (takeTurn s).irq3 = s.irq3 := rfl
@[simp] theorem takeTurn_trace (s : State) : (takeTurn s).trace = s.trace := rfl
@[simp] theorem takeTurn_now (s : State) : (takeTurn s).now = s.now := rfl
@[simp] theorem takeTurn_agenda (s : State) : (takeTurn s).agenda = (movesAhead s).tail := rfl
@[simp] theorem takeTurn_turn (s : State) : (takeTurn s).turn = s.turn + 1 := rfl
@[simp] theorem takeTurn_phy (s : State) : (takeTurn s).phy = s.phy := rfl
@[simp] theorem takeTurn_draws (s : State) : (takeTurn s).draws = s.draws := rfl
@[simp] theorem takeTurn_hostProg (s : State) : (takeTurn s).hostProg = s.hostProg := rfl
@[simp] theorem takeTurn_grants (s : State) : (takeTurn s).grants = s.grants := rfl

/-! ## `setTransportFault` -/

@[simp] theorem setTransportFault_conf (s : State) : (setTransportFault s).conf = s.conf := rfl
@[simp] theorem setTransportFault_cmd (s : State) : (setTransportFault s).cmd = s.cmd := rfl
@[simp] theorem setTransportFault_argAddr (s : State) :
    (setTransportFault s).argAddr = s.argAddr := rfl
@[simp] theorem setTransportFault_argData (s : State) :
    (setTransportFault s).argData = s.argData := rfl
@[simp] theorem setTransportFault_result (s : State) :
    (setTransportFault s).result = s.result := rfl
@[simp] theorem setTransportFault_resultHi (s : State) :
    (setTransportFault s).resultHi = s.resultHi := rfl
@[simp] theorem setTransportFault_busy (s : State) : (setTransportFault s).busy = s.busy := rfl
@[simp] theorem setTransportFault_doneFlag (s : State) :
    (setTransportFault s).doneFlag = s.doneFlag := rfl
@[simp] theorem setTransportFault_cmdRefused (s : State) :
    (setTransportFault s).cmdRefused = s.cmdRefused := rfl
@[simp] theorem setTransportFault_cmdOverrun (s : State) :
    (setTransportFault s).cmdOverrun = s.cmdOverrun := rfl
@[simp] theorem setTransportFault_outcome (s : State) :
    (setTransportFault s).outcome = s.outcome := rfl
@[simp] theorem setTransportFault_refuseReason (s : State) :
    (setTransportFault s).refuseReason = s.refuseReason := rfl
@[simp] theorem setTransportFault_monSample (s : State) :
    (setTransportFault s).monSample = s.monSample := rfl
@[simp] theorem setTransportFault_vco (s : State) : (setTransportFault s).vco = s.vco := rfl
@[simp] theorem setTransportFault_fsm (s : State) : (setTransportFault s).fsm = s.fsm := rfl
@[simp] theorem setTransportFault_reason (s : State) :
    (setTransportFault s).reason = s.reason := rfl
@[simp] theorem setTransportFault_target (s : State) :
    (setTransportFault s).target = s.target := rfl
@[simp] theorem setTransportFault_agent (s : State) : (setTransportFault s).agent = s.agent := rfl
@[simp] theorem setTransportFault_inv (s : State) : (setTransportFault s).inv = s.inv := rfl
@[simp] theorem setTransportFault_lock (s : State) : (setTransportFault s).lock = s.lock := rfl
@[simp] theorem setTransportFault_hostCmd (s : State) :
    (setTransportFault s).hostCmd = s.hostCmd := rfl
@[simp] theorem setTransportFault_azCount (s : State) :
    (setTransportFault s).azCount = s.azCount := rfl
@[simp] theorem setTransportFault_regcalCount (s : State) :
    (setTransportFault s).regcalCount = s.regcalCount := rfl
@[simp] theorem setTransportFault_bound (s : State) : (setTransportFault s).bound = s.bound := rfl
@[simp] theorem setTransportFault_transportFault (s : State) :
    (setTransportFault s).transportFault = true := rfl
@[simp] theorem setTransportFault_monArmed (s : State) :
    (setTransportFault s).monArmed = s.monArmed := rfl
@[simp] theorem setTransportFault_monDue (s : State) :
    (setTransportFault s).monDue = s.monDue := rfl
@[simp] theorem setTransportFault_monRef (s : State) :
    (setTransportFault s).monRef = s.monRef := rfl
@[simp] theorem setTransportFault_monPeriod (s : State) :
    (setTransportFault s).monPeriod = s.monPeriod := rfl
@[simp] theorem setTransportFault_irq2 (s : State) : (setTransportFault s).irq2 = s.irq2 := rfl
@[simp] theorem setTransportFault_irq3 (s : State) : (setTransportFault s).irq3 = s.irq3 := rfl
@[simp] theorem setTransportFault_trace (s : State) : (setTransportFault s).trace = s.trace := rfl
@[simp] theorem setTransportFault_now (s : State) : (setTransportFault s).now = s.now := rfl
@[simp] theorem setTransportFault_agenda (s : State) :
    (setTransportFault s).agenda = s.agenda := rfl
@[simp] theorem setTransportFault_turn (s : State) : (setTransportFault s).turn = s.turn := rfl
@[simp] theorem setTransportFault_phy (s : State) : (setTransportFault s).phy = s.phy := rfl
@[simp] theorem setTransportFault_draws (s : State) : (setTransportFault s).draws = s.draws := rfl
@[simp] theorem setTransportFault_hostProg (s : State) :
    (setTransportFault s).hostProg = s.hostProg := rfl
@[simp] theorem setTransportFault_grants (s : State) :
    (setTransportFault s).grants = s.grants := rfl

/-! ## `waitFor` -/

@[simp] theorem waitFor_conf (t : Delay) (s : State) : (waitFor t s).conf = s.conf := rfl
@[simp] theorem waitFor_cmd (t : Delay) (s : State) : (waitFor t s).cmd = s.cmd := rfl
@[simp] theorem waitFor_argAddr (t : Delay) (s : State) : (waitFor t s).argAddr = s.argAddr := rfl
@[simp] theorem waitFor_argData (t : Delay) (s : State) : (waitFor t s).argData = s.argData := rfl
@[simp] theorem waitFor_result (t : Delay) (s : State) : (waitFor t s).result = s.result := rfl
@[simp] theorem waitFor_resultHi (t : Delay) (s : State) :
    (waitFor t s).resultHi = s.resultHi := rfl
@[simp] theorem waitFor_busy (t : Delay) (s : State) : (waitFor t s).busy = s.busy := rfl
@[simp] theorem waitFor_doneFlag (t : Delay) (s : State) :
    (waitFor t s).doneFlag = s.doneFlag := rfl
@[simp] theorem waitFor_cmdRefused (t : Delay) (s : State) :
    (waitFor t s).cmdRefused = s.cmdRefused := rfl
@[simp] theorem waitFor_cmdOverrun (t : Delay) (s : State) :
    (waitFor t s).cmdOverrun = s.cmdOverrun := rfl
@[simp] theorem waitFor_outcome (t : Delay) (s : State) : (waitFor t s).outcome = s.outcome := rfl
@[simp] theorem waitFor_refuseReason (t : Delay) (s : State) :
    (waitFor t s).refuseReason = s.refuseReason := rfl
@[simp] theorem waitFor_monSample (t : Delay) (s : State) :
    (waitFor t s).monSample = s.monSample := rfl
@[simp] theorem waitFor_vco (t : Delay) (s : State) : (waitFor t s).vco = s.vco := rfl
@[simp] theorem waitFor_fsm (t : Delay) (s : State) : (waitFor t s).fsm = s.fsm := rfl
@[simp] theorem waitFor_reason (t : Delay) (s : State) : (waitFor t s).reason = s.reason := rfl
@[simp] theorem waitFor_target (t : Delay) (s : State) : (waitFor t s).target = s.target := rfl
@[simp] theorem waitFor_agent (t : Delay) (s : State) : (waitFor t s).agent = s.agent := rfl
@[simp] theorem waitFor_inv (t : Delay) (s : State) : (waitFor t s).inv = s.inv := rfl
@[simp] theorem waitFor_lock (t : Delay) (s : State) : (waitFor t s).lock = s.lock := rfl
@[simp] theorem waitFor_hostCmd (t : Delay) (s : State) : (waitFor t s).hostCmd = s.hostCmd := rfl
@[simp] theorem waitFor_azCount (t : Delay) (s : State) : (waitFor t s).azCount = s.azCount := rfl
@[simp] theorem waitFor_regcalCount (t : Delay) (s : State) :
    (waitFor t s).regcalCount = s.regcalCount := rfl
@[simp] theorem waitFor_bound (t : Delay) (s : State) : (waitFor t s).bound = s.bound := rfl
@[simp] theorem waitFor_transportFault (t : Delay) (s : State) :
    (waitFor t s).transportFault = s.transportFault := rfl
@[simp] theorem waitFor_monArmed (t : Delay) (s : State) :
    (waitFor t s).monArmed = s.monArmed := rfl
@[simp] theorem waitFor_monDue (t : Delay) (s : State) : (waitFor t s).monDue = s.monDue := rfl
@[simp] theorem waitFor_monRef (t : Delay) (s : State) : (waitFor t s).monRef = s.monRef := rfl
@[simp] theorem waitFor_monPeriod (t : Delay) (s : State) :
    (waitFor t s).monPeriod = s.monPeriod := rfl
@[simp] theorem waitFor_irq2 (t : Delay) (s : State) : (waitFor t s).irq2 = s.irq2 := rfl
@[simp] theorem waitFor_irq3 (t : Delay) (s : State) : (waitFor t s).irq3 = s.irq3 := rfl
@[simp] theorem waitFor_trace (t : Delay) (s : State) :
    (waitFor t s).trace = .wait t :: s.trace := rfl
@[simp] theorem waitFor_now (t : Delay) (s : State) :
    (waitFor t s).now = s.now + durationOf (cfgOf s) t := rfl
@[simp] theorem waitFor_agenda (t : Delay) (s : State) : (waitFor t s).agenda = s.agenda := rfl
@[simp] theorem waitFor_turn (t : Delay) (s : State) : (waitFor t s).turn = s.turn := rfl
@[simp] theorem waitFor_phy (t : Delay) (s : State) : (waitFor t s).phy = s.phy := rfl
@[simp] theorem waitFor_draws (t : Delay) (s : State) : (waitFor t s).draws = s.draws := rfl
@[simp] theorem waitFor_hostProg (t : Delay) (s : State) :
    (waitFor t s).hostProg = s.hostProg := rfl
@[simp] theorem waitFor_grants (t : Delay) (s : State) :
    (waitFor t s).grants = s.grants := rfl

/-! ## `finishHost` -/

@[simp] theorem finishHost_conf (c : Instr) (o : RecoveryOutcome) (s : State) :
    (finishHost c o s).conf = s.conf := rfl
@[simp] theorem finishHost_cmd (c : Instr) (o : RecoveryOutcome) (s : State) :
    (finishHost c o s).cmd = s.cmd := rfl
@[simp] theorem finishHost_argAddr (c : Instr) (o : RecoveryOutcome) (s : State) :
    (finishHost c o s).argAddr = s.argAddr := rfl
@[simp] theorem finishHost_argData (c : Instr) (o : RecoveryOutcome) (s : State) :
    (finishHost c o s).argData = s.argData := rfl
@[simp] theorem finishHost_result (c : Instr) (o : RecoveryOutcome) (s : State) :
    (finishHost c o s).result = s.result := rfl
@[simp] theorem finishHost_resultHi (c : Instr) (o : RecoveryOutcome) (s : State) :
    (finishHost c o s).resultHi = s.resultHi := rfl
@[simp] theorem finishHost_busy (c : Instr) (o : RecoveryOutcome) (s : State) :
    (finishHost c o s).busy = false := rfl
@[simp] theorem finishHost_doneFlag (c : Instr) (o : RecoveryOutcome) (s : State) :
    (finishHost c o s).doneFlag = true := rfl
@[simp] theorem finishHost_cmdRefused (c : Instr) (o : RecoveryOutcome) (s : State) :
    (finishHost c o s).cmdRefused = s.cmdRefused := rfl
@[simp] theorem finishHost_cmdOverrun (c : Instr) (o : RecoveryOutcome) (s : State) :
    (finishHost c o s).cmdOverrun = s.cmdOverrun := rfl
@[simp] theorem finishHost_outcome (c : Instr) (o : RecoveryOutcome) (s : State) :
    (finishHost c o s).outcome = some o := rfl
@[simp] theorem finishHost_refuseReason (c : Instr) (o : RecoveryOutcome) (s : State) :
    (finishHost c o s).refuseReason = s.refuseReason := rfl
@[simp] theorem finishHost_monSample (c : Instr) (o : RecoveryOutcome) (s : State) :
    (finishHost c o s).monSample = s.monSample := rfl
@[simp] theorem finishHost_vco (c : Instr) (o : RecoveryOutcome) (s : State) :
    (finishHost c o s).vco = s.vco := rfl
@[simp] theorem finishHost_fsm (c : Instr) (o : RecoveryOutcome) (s : State) :
    (finishHost c o s).fsm = s.fsm := rfl
@[simp] theorem finishHost_reason (c : Instr) (o : RecoveryOutcome) (s : State) :
    (finishHost c o s).reason = s.reason := rfl
@[simp] theorem finishHost_target (c : Instr) (o : RecoveryOutcome) (s : State) :
    (finishHost c o s).target = s.target := rfl
@[simp] theorem finishHost_agent (c : Instr) (o : RecoveryOutcome) (s : State) :
    (finishHost c o s).agent = s.agent := rfl
@[simp] theorem finishHost_inv (c : Instr) (o : RecoveryOutcome) (s : State) :
    (finishHost c o s).inv = none := rfl
@[simp] theorem finishHost_lock (c : Instr) (o : RecoveryOutcome) (s : State) :
    (finishHost c o s).lock = none := rfl
@[simp] theorem finishHost_hostCmd (c : Instr) (o : RecoveryOutcome) (s : State) :
    (finishHost c o s).hostCmd = none := rfl
@[simp] theorem finishHost_azCount (c : Instr) (o : RecoveryOutcome) (s : State) :
    (finishHost c o s).azCount = s.azCount := rfl
@[simp] theorem finishHost_regcalCount (c : Instr) (o : RecoveryOutcome) (s : State) :
    (finishHost c o s).regcalCount = s.regcalCount := rfl
@[simp] theorem finishHost_bound (c : Instr) (o : RecoveryOutcome) (s : State) :
    (finishHost c o s).bound = s.bound := rfl
@[simp] theorem finishHost_transportFault (c : Instr) (o : RecoveryOutcome) (s : State) :
    (finishHost c o s).transportFault = s.transportFault := rfl
@[simp] theorem finishHost_monArmed (c : Instr) (o : RecoveryOutcome) (s : State) :
    (finishHost c o s).monArmed = s.monArmed := rfl
@[simp] theorem finishHost_monDue (c : Instr) (o : RecoveryOutcome) (s : State) :
    (finishHost c o s).monDue = s.monDue := rfl
@[simp] theorem finishHost_monRef (c : Instr) (o : RecoveryOutcome) (s : State) :
    (finishHost c o s).monRef = s.monRef := rfl
@[simp] theorem finishHost_monPeriod (c : Instr) (o : RecoveryOutcome) (s : State) :
    (finishHost c o s).monPeriod = s.monPeriod := rfl
@[simp] theorem finishHost_irq2 (c : Instr) (o : RecoveryOutcome) (s : State) :
    (finishHost c o s).irq2 = s.irq2 := rfl
@[simp] theorem finishHost_irq3 (c : Instr) (o : RecoveryOutcome) (s : State) :
    (finishHost c o s).irq3 = s.irq3 := rfl
@[simp] theorem finishHost_trace (c : Instr) (o : RecoveryOutcome) (s : State) :
    (finishHost c o s).trace = .ended .host (kindOf c) (laneOperand c) o :: s.trace := rfl
@[simp] theorem finishHost_now (c : Instr) (o : RecoveryOutcome) (s : State) :
    (finishHost c o s).now = s.now := rfl
@[simp] theorem finishHost_agenda (c : Instr) (o : RecoveryOutcome) (s : State) :
    (finishHost c o s).agenda = s.agenda := rfl
@[simp] theorem finishHost_turn (c : Instr) (o : RecoveryOutcome) (s : State) :
    (finishHost c o s).turn = s.turn := rfl
@[simp] theorem finishHost_phy (c : Instr) (o : RecoveryOutcome) (s : State) :
    (finishHost c o s).phy = s.phy := rfl
@[simp] theorem finishHost_draws (c : Instr) (o : RecoveryOutcome) (s : State) :
    (finishHost c o s).draws = s.draws := rfl
@[simp] theorem finishHost_hostProg (c : Instr) (o : RecoveryOutcome) (s : State) :
    (finishHost c o s).hostProg = s.hostProg := rfl
@[simp] theorem finishHost_grants (c : Instr) (o : RecoveryOutcome) (s : State) :
    (finishHost c o s).grants = s.grants := rfl

/-! ## `irqSet` -/

@[simp] theorem irqSet_conf (l : IrqLane) (x : IrqLine) (s : State) : (irqSet l x s).conf = s.conf := by
  cases l <;> rfl
@[simp] theorem irqSet_cmd (l : IrqLane) (x : IrqLine) (s : State) : (irqSet l x s).cmd = s.cmd := by
  cases l <;> rfl
@[simp] theorem irqSet_argAddr (l : IrqLane) (x : IrqLine) (s : State) : (irqSet l x s).argAddr = s.argAddr := by
  cases l <;> rfl
@[simp] theorem irqSet_argData (l : IrqLane) (x : IrqLine) (s : State) : (irqSet l x s).argData = s.argData := by
  cases l <;> rfl
@[simp] theorem irqSet_result (l : IrqLane) (x : IrqLine) (s : State) : (irqSet l x s).result = s.result := by
  cases l <;> rfl
@[simp] theorem irqSet_resultHi (l : IrqLane) (x : IrqLine) (s : State) : (irqSet l x s).resultHi = s.resultHi := by
  cases l <;> rfl
@[simp] theorem irqSet_busy (l : IrqLane) (x : IrqLine) (s : State) : (irqSet l x s).busy = s.busy := by
  cases l <;> rfl
@[simp] theorem irqSet_doneFlag (l : IrqLane) (x : IrqLine) (s : State) : (irqSet l x s).doneFlag = s.doneFlag := by
  cases l <;> rfl
@[simp] theorem irqSet_cmdRefused (l : IrqLane) (x : IrqLine) (s : State) : (irqSet l x s).cmdRefused = s.cmdRefused := by
  cases l <;> rfl
@[simp] theorem irqSet_cmdOverrun (l : IrqLane) (x : IrqLine) (s : State) : (irqSet l x s).cmdOverrun = s.cmdOverrun := by
  cases l <;> rfl
@[simp] theorem irqSet_outcome (l : IrqLane) (x : IrqLine) (s : State) : (irqSet l x s).outcome = s.outcome := by
  cases l <;> rfl
@[simp] theorem irqSet_refuseReason (l : IrqLane) (x : IrqLine) (s : State) : (irqSet l x s).refuseReason = s.refuseReason := by
  cases l <;> rfl
@[simp] theorem irqSet_monSample (l : IrqLane) (x : IrqLine) (s : State) : (irqSet l x s).monSample = s.monSample := by
  cases l <;> rfl
@[simp] theorem irqSet_vco (l : IrqLane) (x : IrqLine) (s : State) : (irqSet l x s).vco = s.vco := by
  cases l <;> rfl
@[simp] theorem irqSet_fsm (l : IrqLane) (x : IrqLine) (s : State) : (irqSet l x s).fsm = s.fsm := by
  cases l <;> rfl
@[simp] theorem irqSet_reason (l : IrqLane) (x : IrqLine) (s : State) : (irqSet l x s).reason = s.reason := by
  cases l <;> rfl
@[simp] theorem irqSet_target (l : IrqLane) (x : IrqLine) (s : State) : (irqSet l x s).target = s.target := by
  cases l <;> rfl
@[simp] theorem irqSet_agent (l : IrqLane) (x : IrqLine) (s : State) : (irqSet l x s).agent = s.agent := by
  cases l <;> rfl
@[simp] theorem irqSet_inv (l : IrqLane) (x : IrqLine) (s : State) : (irqSet l x s).inv = s.inv := by
  cases l <;> rfl
@[simp] theorem irqSet_lock (l : IrqLane) (x : IrqLine) (s : State) : (irqSet l x s).lock = s.lock := by
  cases l <;> rfl
@[simp] theorem irqSet_hostCmd (l : IrqLane) (x : IrqLine) (s : State) : (irqSet l x s).hostCmd = s.hostCmd := by
  cases l <;> rfl
@[simp] theorem irqSet_azCount (l : IrqLane) (x : IrqLine) (s : State) : (irqSet l x s).azCount = s.azCount := by
  cases l <;> rfl
@[simp] theorem irqSet_regcalCount (l : IrqLane) (x : IrqLine) (s : State) : (irqSet l x s).regcalCount = s.regcalCount := by
  cases l <;> rfl
@[simp] theorem irqSet_bound (l : IrqLane) (x : IrqLine) (s : State) : (irqSet l x s).bound = s.bound := by
  cases l <;> rfl
@[simp] theorem irqSet_transportFault (l : IrqLane) (x : IrqLine) (s : State) : (irqSet l x s).transportFault = s.transportFault := by
  cases l <;> rfl
@[simp] theorem irqSet_monArmed (l : IrqLane) (x : IrqLine) (s : State) : (irqSet l x s).monArmed = s.monArmed := by
  cases l <;> rfl
@[simp] theorem irqSet_monDue (l : IrqLane) (x : IrqLine) (s : State) : (irqSet l x s).monDue = s.monDue := by
  cases l <;> rfl
@[simp] theorem irqSet_monRef (l : IrqLane) (x : IrqLine) (s : State) : (irqSet l x s).monRef = s.monRef := by
  cases l <;> rfl
@[simp] theorem irqSet_monPeriod (l : IrqLane) (x : IrqLine) (s : State) : (irqSet l x s).monPeriod = s.monPeriod := by
  cases l <;> rfl
@[simp] theorem irqSet_trace (l : IrqLane) (x : IrqLine) (s : State) : (irqSet l x s).trace = s.trace := by
  cases l <;> rfl
@[simp] theorem irqSet_now (l : IrqLane) (x : IrqLine) (s : State) : (irqSet l x s).now = s.now := by
  cases l <;> rfl
@[simp] theorem irqSet_agenda (l : IrqLane) (x : IrqLine) (s : State) : (irqSet l x s).agenda = s.agenda := by
  cases l <;> rfl
@[simp] theorem irqSet_turn (l : IrqLane) (x : IrqLine) (s : State) : (irqSet l x s).turn = s.turn := by
  cases l <;> rfl
@[simp] theorem irqSet_phy (l : IrqLane) (x : IrqLine) (s : State) : (irqSet l x s).phy = s.phy := by
  cases l <;> rfl
@[simp] theorem irqSet_draws (l : IrqLane) (x : IrqLine) (s : State) : (irqSet l x s).draws = s.draws := by
  cases l <;> rfl
@[simp] theorem irqSet_hostProg (l : IrqLane) (x : IrqLine) (s : State) : (irqSet l x s).hostProg = s.hostProg := by
  cases l <;> rfl
@[simp] theorem irqSet_grants (l : IrqLane) (x : IrqLine) (s : State) : (irqSet l x s).grants = s.grants := by
  cases l <;> rfl
@[simp] theorem irqGet_irqSet (l : IrqLane) (x : IrqLine) (s : State) : irqGet (irqSet l x s) l = x := by
  cases l <;> rfl
@[simp] theorem irqSet_l2_irq3 (x : IrqLine) (s : State) : (irqSet .l2 x s).irq3 = s.irq3 := rfl
@[simp] theorem irqSet_l3_irq2 (x : IrqLine) (s : State) : (irqSet .l3 x s).irq2 = s.irq2 := rfl
@[simp] theorem irqSet_l2_irq2 (x : IrqLine) (s : State) : (irqSet .l2 x s).irq2 = x := rfl
@[simp] theorem irqSet_l3_irq3 (x : IrqLine) (s : State) : (irqSet .l3 x s).irq3 = x := rfl

end Sys2Proof.Machine
end

