-- ==== Sys2Proof/Laws/Ops.lean ====
section
/-! SUPPORT. What each shared operation can do, said once: the port, one primitive of a procedure,
and one step of a command. -/

namespace Sys2Proof.Machine

/-! ## The Register Access Port -/

/-- The answer now is the answer to the transaction numbered 0 from here on. -/
theorem nextReply_eq_replyAt (s : State) : nextReply s = replyAt s 0 := by
  unfold nextReply replyAt
  cases s.phy <;> simp

/-- After a transaction the answers left are the later ones. -/
theorem replyAt_drawReply (s : State) (k : Nat) : replyAt (drawReply s) k = replyAt s (k + 1) := by
  unfold replyAt
  simp [List.getElem?_tail, Nat.add_comm, Nat.add_left_comm]

/-- A read that completes. -/
theorem memRead_ok {a v : Word} {s : State} (h : nextReply s = .ok v) :
    memRead a s = (some v, record (.rd a v) (drawReply s)) := by
  simp [memRead, h]

/-- A read that fails. -/
theorem memRead_fail {a : Word} {s : State} (h : nextReply s = .fail) :
    memRead a s = (none, record (.rdFail a) (drawReply s)) := by
  simp [memRead, h]

/-- A write that completes. -/
theorem memWrite_ok {a v w : Word} {s : State} (h : nextReply s = .ok w) :
    memWrite a v s = (true, record (.wr a v) (drawReply s)) := by
  simp [memWrite, h]

/-- A write that fails. -/
theorem memWrite_fail {a v : Word} {s : State} (h : nextReply s = .fail) :
    memWrite a v s = (false, record (.wrFail a v) (drawReply s)) := by
  simp [memWrite, h]

/-! ## One primitive -/

/-- What `applyPre` leaves alone. -/
theorem applyPre_frame (p : Pre) (s : State) :
    (applyPre p s).phy = s.phy ∧ (applyPre p s).draws = s.draws ∧
      (applyPre p s).vco = s.vco ∧ (applyPre p s).conf = s.conf ∧
      (applyPre p s).lock = s.lock ∧ (applyPre p s).inv = s.inv ∧
      (applyPre p s).hostCmd = s.hostCmd ∧ (applyPre p s).busy = s.busy := by
  cases p with
  | nothing | stage _ | recoverStart _ _ => simp [applyPre]

@[simp] theorem nextReply_applyPre (p : Pre) (s : State) :
    nextReply (applyPre p s) = nextReply s := by
  obtain ⟨h1, h2, -⟩ := applyPre_frame p s
  simp only [nextReply, h1, h2]

@[simp] theorem applyPre_vco (p : Pre) (s : State) : (applyPre p s).vco = s.vco :=
  (applyPre_frame p s).2.2.1

/-- A writing primitive writes its word where the PHY takes it, and fails otherwise. -/
theorem perform_write {op : MicroOp} {a w : Word} {n : Nat} {inv : Invocation}
    {go : Continuation} {fail : State → State} {s : State}
    (h : writtenWord op.act inv s = some (a, w)) :
    perform op n inv go fail s =
      match nextReply s with
      | .ok _ => go (.run (n + 1)) inv
          (applyPost op.post (record (.wr a w) (drawReply (applyPre op.pre s))))
      | .fail => fail (record (.wrFail a w) (drawReply (applyPre op.pre s))) := by
  obtain ⟨pre, act, post⟩ := op
  cases act with
  | write a' v =>
    simp only [writtenWord, Option.some.injEq, Prod.mk.injEq] at h
    obtain ⟨rfl, rfl⟩ := h
    simp only [perform, writeStep, memWrite, nextReply_applyPre]
    cases nextReply s <;> rfl
  | writeVco a' l =>
    simp only [writtenWord, Option.some.injEq, Prod.mk.injEq] at h
    obtain ⟨rfl, rfl⟩ := h
    simp only [perform, writeStep, memWrite, nextReply_applyPre, applyPre_vco]
    cases nextReply s <;> rfl
  | writeBack a' f =>
    simp only [writtenWord, Option.some.injEq, Prod.mk.injEq] at h
    obtain ⟨rfl, rfl⟩ := h
    simp only [perform, writeStep, memWrite, nextReply_applyPre]
    cases nextReply s <;> rfl
  | read _ _ | wait _ _ => simp [writtenWord] at h

/-- A reading primitive uses the word the PHY supplies, and fails otherwise. -/
theorem perform_read {op : MicroOp} {a : Word} {u : Use} {n : Nat} {inv : Invocation}
    {go : Continuation} {fail : State → State} {s : State} (h : op.act = .read a u) :
    perform op n inv go fail s =
      match nextReply s with
      | .ok v => useValue u v n inv go (record (.rd a v) (drawReply (applyPre op.pre s)))
      | .fail => fail (record (.rdFail a) (drawReply (applyPre op.pre s))) := by
  obtain ⟨pre, act, post⟩ := op
  simp only at h
  subst h
  simp only [perform, readStep, memRead, nextReply_applyPre]
  cases nextReply s <;> rfl

/-- A Wait draws no answer and passes, or goes back. -/
theorem perform_wait {op : MicroOp} {t : Delay} {back n : Nat} {inv : Invocation}
    {go : Continuation} {fail : State → State} {s : State} (h : op.act = .wait t back) :
    perform op n inv go fail s =
      go (.run (n + 1 - back)) inv (applyPost op.post (waitFor t (applyPre op.pre s))) := by
  obtain ⟨pre, act, post⟩ := op
  simp only at h
  subst h
  rfl

/-- What `applyPost` leaves alone. -/
theorem applyPost_frame (p : Post) (s : State) :
    applyPost p s = { s with azCount := (applyPost p s).azCount,
                             regcalCount := (applyPost p s).regcalCount } := by
  cases p <;> rfl

/-- A procedure is over at an index exactly when no primitive stands there. -/
theorem endOf_run (code : List MicroOp) (n : Nat) :
    endOf code (.run n) = if code[n]? = none then some .success else none := by
  simp only [endOf, List.getElem?_eq_none_iff]
  split <;> split <;> first | rfl | omega

/-! ## One step of a command -/

/-- Every command's meaning is one step of its procedure. -/
theorem exec_eq (i : Instr) (s : State) :
    exec i s = runHost i (fun c a d => codeOf c a d i) (finalOf i) s := by
  cases i <;> rfl

/-- A free sequencer begins the accepted command and takes its first step. -/
theorem exec_ready {i : Instr} {a d : Word} {s : State} (h : Ready i a d s) :
    exec i s = .next
      (hostAdvance i (fun c a d => codeOf c a d i) (finalOf i) a d
        { proc := .command i a d, pos := .run 0, v := 0#16, allDone := false }
        (beginHost i s)) := by
  obtain ⟨h1, h2⟩ := h
  rw [exec_eq]
  simp [runHost, hostResume, beginHost, h1, h2, record]

/-- A running command takes its next step. -/
theorem exec_running {i : Instr} {a d : Word} {inv : Invocation} {s : State}
    (h : Running i a d inv s) :
    exec i s = .next
      (hostAdvance i (fun c a d => codeOf c a d i) (finalOf i) a d inv s) := by
  obtain ⟨h1, h2, h3⟩ := h
  rw [exec_eq]
  simp [runHost, hostResume, h1, h2, h3]

/-- A step of a command whose next primitive is `op`. -/
theorem hostAdvance_op {c : Instr} {code : Cfg → Word → Word → List MicroOp}
    {final : RecoveryOutcome → State → State} {a d : Word} {inv : Invocation} {s : State} {n : Nat}
    {op : MicroOp} (hp : inv.pos = .run n) (ho : (code (cfgOf s) a d)[n]? = some op) :
    hostAdvance c code final a d inv s =
      perform op n inv goTo
        (fun s => finishHost c .transportError (final .transportError (setTransportFault s))) s := by
  simp [hostAdvance, hp, ho]

/-- The final step of a command whose procedure has no primitive left. -/
theorem hostAdvance_done {c : Instr} {code : Cfg → Word → Word → List MicroOp}
    {final : RecoveryOutcome → State → State} {a d : Word} {inv : Invocation} {s : State} {n : Nat}
    (hp : inv.pos = .run n) (ho : (code (cfgOf s) a d)[n]? = none) :
    hostAdvance c code final a d inv s = finishHost c .success (final .success s) := by
  simp [hostAdvance, hp, ho]

/-- The final step of a command whose procedure has returned `o`. -/
theorem hostAdvance_returned {c : Instr} {code : Cfg → Word → Word → List MicroOp}
    {final : RecoveryOutcome → State → State} {a d : Word} {inv : Invocation} {s : State}
    {o : RecoveryOutcome} (hp : inv.pos = .returned o) :
    hostAdvance c code final a d inv s = finishHost c o (final o s) := by
  simp [hostAdvance, hp]

/-! ## Runs -/

/-- One step, then the rest. -/
theorem execTimes_succ {n : Nat} {i : Instr} {s t : State} (h : exec i s = .next t) :
    execTimes (n + 1) i s = execTimes n i t := by
  simp [execTimes, h]

/-- A run of `n` steps, then `m` more. -/
theorem execTimes_add {n m : Nat} {i : Instr} {s t : State} (h : execTimes n i s = .next t) :
    execTimes (n + m) i s = execTimes m i t := by
  induction n generalizing s with
  | zero =>
    simp only [execTimes, Host.Outcome.next.injEq] at h
    subst h
    simp
  | succ n ih =>
    rw [Nat.add_right_comm]
    simp only [execTimes] at h ⊢
    split at h
    · exact ih h
    · cases h
    · cases h

/-! ## Moves and grants -/

/-- What the first draw that names a pending requester is: it is pending, and the draws before it
name none that is. -/
theorem firstRequest_some {s : State} {as rest : List Agent} {a : Agent}
    (h : firstRequest s as = some (a, rest)) :
    ∃ before, as = before ++ a :: rest ∧ requests s a = true ∧
      ∀ b ∈ before, requests s b = false := by
  induction as with
  | nil => cases h
  | cons b bs ih =>
    unfold firstRequest at h
    split at h
    next hb =>
      cases h
      exact ⟨[], rfl, hb, by simp⟩
    next hb =>
      obtain ⟨before, rfl, h1, h2⟩ := ih h
      exact ⟨b :: before, rfl, h1, by simpa [hb] using h2⟩

/-- No draw names a pending requester exactly when none of those drawn is pending. -/
theorem firstRequest_none {s : State} {as : List Agent} :
    firstRequest s as = none ↔ ∀ a ∈ as, requests s a = false := by
  induction as with
  | nil => simp [firstRequest]
  | cons b bs ih =>
    unfold firstRequest
    cases hb : requests s b <;> simp [hb, ih]

/-- A round of draws names every requester (R343). -/
theorem mem_grantRound (n : Nat) (a : Agent) : a ∈ Config.grantRound n := by
  unfold Config.grantRound Config.withEveryAgent
  by_cases h : a ∈ Config.freeGrants n
  · exact List.mem_append_left _ h
  · exact List.mem_append_right _ (List.mem_filter.mpr ⟨by cases a <;> simp, by simpa using h⟩)

/-- A round of moves has one of the sequencer (R343). -/
theorem moveRound_any (n : Nat) : (Config.moveRound n).any Config.isSequencer = true := by
  unfold Config.moveRound Config.withSequencer
  split
  · assumption
  · simp [Config.isSequencer]

/-- A grant goes to a pending requester, and there is one whenever something is pending (R343). -/
theorem grantChoice_spec (s : State) :
    (∀ a rest, grantChoice s = some (a, rest) → requests s a = true) ∧
      (grantChoice s = none ↔ ∀ a, requests s a = false) := by
  constructor
  · intro a rest h
    unfold grantChoice at h
    split at h
    next r hr =>
      cases h
      exact (firstRequest_some hr).elim fun _ h => h.2.1
    next => exact (firstRequest_some h).elim fun _ h => h.2.1
  · unfold grantChoice
    split
    next r hr =>
      obtain ⟨_, -, h, -⟩ := firstRequest_some (a := r.1) (rest := r.2) hr
      simp only [reduceCtorEq, false_iff, not_forall, Bool.not_eq_false]
      exact ⟨_, h⟩
    next =>
      rw [firstRequest_none]
      exact ⟨fun h a => h a (mem_grantRound _ a), fun h a _ => h a⟩

/-! ## Encoding -/

theorem fieldOpc_packFields (o : BitVec 8) (l d : BitVec 3) : fieldOpc (packFields o l d) = o := by
  apply BitVec.eq_of_getLsbD_eq
  intro k hk
  simp only [fieldOpc, packFields, BitVec.getLsbD_extractLsb', BitVec.getLsbD_append]
  have : ¬ 8 + k < 2 := by omega
  have h2 : ¬ 8 + k - 2 < 3 := by omega
  have h3 : ¬ 8 + k - 2 - 3 < 3 := by omega
  simp only [this, h2, h3, hk, decide_true, Bool.true_and, ↓reduceIte]
  congr 1
  omega

theorem fieldLane_packFields (o : BitVec 8) (l d : BitVec 3) : fieldLane (packFields o l d) = l := by
  apply BitVec.eq_of_getLsbD_eq
  intro k hk
  simp only [fieldLane, packFields, BitVec.getLsbD_extractLsb', BitVec.getLsbD_append]
  have : ¬ 5 + k < 2 := by omega
  have h2 : ¬ 5 + k - 2 < 3 := by omega
  have h3 : 5 + k - 2 - 3 < 3 := by omega
  simp only [this, h2, h3, hk, decide_true, Bool.true_and, ↓reduceIte]
  congr 1
  omega

theorem fieldDom_packFields (o : BitVec 8) (l d : BitVec 3) : fieldDom (packFields o l d) = d := by
  apply BitVec.eq_of_getLsbD_eq
  intro k hk
  simp only [fieldDom, packFields, BitVec.getLsbD_extractLsb', BitVec.getLsbD_append]
  have : ¬ 2 + k < 2 := by omega
  have h2 : 2 + k - 2 < 3 := by omega
  simp only [this, h2, hk, decide_true, Bool.true_and, ↓reduceIte]
  congr 1
  omega

theorem fieldRsv_packFields (o : BitVec 8) (l d : BitVec 3) : fieldRsv (packFields o l d) = 0 := by
  apply BitVec.eq_of_getLsbD_eq
  intro k hk
  simp only [fieldRsv, packFields, BitVec.getLsbD_extractLsb', BitVec.getLsbD_append]
  simp [hk]

end Sys2Proof.Machine
end

