-- ==== Sys2Proof/Laws/PerInstr.lean ====
section
/-! SUPPORT. For each command: the four fields of its word (spec/30_encoding R100, R111). -/

namespace Sys2Proof.Laws

/-- The fields of a command's word are its opcode, its lane code, its domain code and zero, and the
lane code and the domain code are ones R102 and R103 define. -/
def EncodeFields.Statement (i : Instr) : Prop :=
  fieldOpc (encode i) = opcodeOf i ∧ fieldLane (encode i) = laneFieldOf i ∧
    fieldDom (encode i) = domFieldOf i ∧ fieldRsv (encode i) = 0 ∧
    laneFieldOf i ≤ 4 ∧ domFieldOf i ≤ 2

/-- The fields of any command's word. -/
theorem encode_fields (i : Instr) :
    fieldOpc (encode i) = opcodeOf i ∧ fieldLane (encode i) = laneFieldOf i ∧
      fieldDom (encode i) = domFieldOf i ∧ fieldRsv (encode i) = 0 :=
  ⟨Machine.fieldOpc_packFields _ _ _, Machine.fieldLane_packFields _ _ _,
    Machine.fieldDom_packFields _ _ _, Machine.fieldRsv_packFields _ _ _⟩

theorem codeOfLaneId_le (L : LaneId) : codeOfLaneId L ≤ 4 := by
  cases L with
  | lane l => cases l <;> decide
  | allLanes => decide

theorem codeOfLane_le (l : Lane) : codeOfLane l ≤ 4 := by cases l <;> decide

theorem codeOfDomain_le (d : ResetDomain) : codeOfDomain d ≤ 2 := by cases d <;> decide

theorem EncodeFields.probe : EncodeFields.Statement (.probe) :=
  ⟨(encode_fields _).1, (encode_fields _).2.1, (encode_fields _).2.2.1, (encode_fields _).2.2.2,
    by decide, BitVec.le_def.mpr (Nat.zero_le _)⟩

theorem EncodeFields.detach : EncodeFields.Statement (.detach) :=
  ⟨(encode_fields _).1, (encode_fields _).2.1, (encode_fields _).2.2.1, (encode_fields _).2.2.2,
    by decide, BitVec.le_def.mpr (Nat.zero_le _)⟩

theorem EncodeFields.regRead : EncodeFields.Statement (.regRead) :=
  ⟨(encode_fields _).1, (encode_fields _).2.1, (encode_fields _).2.2.1, (encode_fields _).2.2.2,
    by decide, BitVec.le_def.mpr (Nat.zero_le _)⟩

theorem EncodeFields.regWrite : EncodeFields.Statement (.regWrite) :=
  ⟨(encode_fields _).1, (encode_fields _).2.1, (encode_fields _).2.2.1, (encode_fields _).2.2.2,
    by decide, BitVec.le_def.mpr (Nat.zero_le _)⟩

theorem EncodeFields.assertRxReset (L : LaneId) : EncodeFields.Statement (.assertRxReset L) :=
  ⟨(encode_fields _).1, (encode_fields _).2.1, (encode_fields _).2.2.1, (encode_fields _).2.2.2,
    codeOfLaneId_le L, BitVec.le_def.mpr (Nat.zero_le _)⟩

theorem EncodeFields.deassertRxReset (L : LaneId) : EncodeFields.Statement (.deassertRxReset L) :=
  ⟨(encode_fields _).1, (encode_fields _).2.1, (encode_fields _).2.2.1, (encode_fields _).2.2.2,
    codeOfLaneId_le L, BitVec.le_def.mpr (Nat.zero_le _)⟩

theorem EncodeFields.assertTxCoreReset (L : LaneId) : EncodeFields.Statement (.assertTxCoreReset L) :=
  ⟨(encode_fields _).1, (encode_fields _).2.1, (encode_fields _).2.2.1, (encode_fields _).2.2.2,
    codeOfLaneId_le L, BitVec.le_def.mpr (Nat.zero_le _)⟩

theorem EncodeFields.deassertTxCoreReset (L : LaneId) : EncodeFields.Statement (.deassertTxCoreReset L) :=
  ⟨(encode_fields _).1, (encode_fields _).2.1, (encode_fields _).2.2.1, (encode_fields _).2.2.2,
    codeOfLaneId_le L, BitVec.le_def.mpr (Nat.zero_le _)⟩

theorem EncodeFields.assertTxPllReset (L : LaneId) : EncodeFields.Statement (.assertTxPllReset L) :=
  ⟨(encode_fields _).1, (encode_fields _).2.1, (encode_fields _).2.2.1, (encode_fields _).2.2.2,
    codeOfLaneId_le L, BitVec.le_def.mpr (Nat.zero_le _)⟩

theorem EncodeFields.deassertTxPllReset (L : LaneId) : EncodeFields.Statement (.deassertTxPllReset L) :=
  ⟨(encode_fields _).1, (encode_fields _).2.1, (encode_fields _).2.2.1, (encode_fields _).2.2.2,
    codeOfLaneId_le L, BitVec.le_def.mpr (Nat.zero_le _)⟩

theorem EncodeFields.assertRxPowerdown (L : LaneId) : EncodeFields.Statement (.assertRxPowerdown L) :=
  ⟨(encode_fields _).1, (encode_fields _).2.1, (encode_fields _).2.2.1, (encode_fields _).2.2.2,
    codeOfLaneId_le L, BitVec.le_def.mpr (Nat.zero_le _)⟩

theorem EncodeFields.deassertRxPowerdown (L : LaneId) : EncodeFields.Statement (.deassertRxPowerdown L) :=
  ⟨(encode_fields _).1, (encode_fields _).2.1, (encode_fields _).2.2.1, (encode_fields _).2.2.2,
    codeOfLaneId_le L, BitVec.le_def.mpr (Nat.zero_le _)⟩

theorem EncodeFields.disableLolMonitor (L : LaneId) : EncodeFields.Statement (.disableLolMonitor L) :=
  ⟨(encode_fields _).1, (encode_fields _).2.1, (encode_fields _).2.2.1, (encode_fields _).2.2.2,
    codeOfLaneId_le L, BitVec.le_def.mpr (Nat.zero_le _)⟩

theorem EncodeFields.toggleReset (d : ResetDomain) (L : LaneId) : EncodeFields.Statement (.toggleReset d L) :=
  ⟨(encode_fields _).1, (encode_fields _).2.1, (encode_fields _).2.2.1, (encode_fields _).2.2.2,
    codeOfLaneId_le L, codeOfDomain_le d⟩

theorem EncodeFields.runAutozero (L : LaneId) : EncodeFields.Statement (.runAutozero L) :=
  ⟨(encode_fields _).1, (encode_fields _).2.1, (encode_fields _).2.2.1, (encode_fields _).2.2.2,
    codeOfLaneId_le L, BitVec.le_def.mpr (Nat.zero_le _)⟩

theorem EncodeFields.runFreqPll (L : LaneId) : EncodeFields.Statement (.runFreqPll L) :=
  ⟨(encode_fields _).1, (encode_fields _).2.1, (encode_fields _).2.2.1, (encode_fields _).2.2.2,
    codeOfLaneId_le L, BitVec.le_def.mpr (Nat.zero_le _)⟩

theorem EncodeFields.txRestart (l : Lane) : EncodeFields.Statement (.txRestart l) :=
  ⟨(encode_fields _).1, (encode_fields _).2.1, (encode_fields _).2.2.1, (encode_fields _).2.2.2,
    codeOfLane_le l, BitVec.le_def.mpr (Nat.zero_le _)⟩

theorem EncodeFields.recover (L : LaneId) : EncodeFields.Statement (.recover L) :=
  ⟨(encode_fields _).1, (encode_fields _).2.1, (encode_fields _).2.2.1, (encode_fields _).2.2.2,
    codeOfLaneId_le L, BitVec.le_def.mpr (Nat.zero_le _)⟩

end Sys2Proof.Laws
end

