-- ==== Sys2Proof/Laws/Procedures.lean ====
section
/-! SUPPORT. Which labels the primitives of a procedure carry before them, and the one lemma that
says all that performing a primitive can do to the running procedure and to the state. -/

open Sys2Proof.Machine.Reference

namespace Sys2Proof.Machine

/-! ## Labels -/

/-- No primitive of the list carries a label before it. -/
def Plain (ops : List MicroOp) : Prop := ∀ op ∈ ops, op.pre = .nothing

theorem Plain.app {a b} (h : Plain a) (g : Plain b) : Plain (a ++ b) := by
  intro op ho
  rcases List.mem_append.mp ho with h1 | h1
  · exact h _ h1
  · exact g _ h1

theorem Plain.nil : Plain [] := by simp [Plain]

theorem Plain.cons {a b} (h : a.pre = .nothing) (g : Plain b) : Plain (a :: b) := by
  intro op ho
  rcases List.mem_cons.mp ho with h1 | h1
  · subst h1; exact h
  · exact g _ h1

theorem Plain.flat {α} {l : List α} {f : α → List MicroOp} (h : ∀ x, Plain (f x)) :
    Plain (l.flatMap f) := by
  intro op ho
  obtain ⟨x, _, hx⟩ := List.mem_flatMap.mp ho
  exact h x _ hx

theorem Plain.map {α} {l : List α} {f : α → Act} : Plain (l.map fun x => opOf (f x)) := by
  intro op ho
  obtain ⟨x, _, rfl⟩ := List.mem_map.mp ho
  rfl

theorem Plain.single {a} (h : a.pre = .nothing) : Plain [a] := .cons h .nil

theorem plain_assert (c d L) : Plain (assertSeq c d L) := .flat fun _ => .cons rfl (.single rfl)

theorem plain_deassert (c d L) : Plain (deassertSeq c d L) := .flat fun _ => .cons rfl (.single rfl)

theorem plain_wait (c t) : Plain (waitOps c t) := by
  unfold waitOps
  split
  · exact .nil
  · exact .single rfl

theorem plain_toggle (c d L) : Plain (toggleSeq c d L) :=
  .flat fun _ => .app (.app (.cons rfl (.single rfl)) (plain_wait _ _)) (.single rfl)

theorem plain_azTrigger (c ls) : Plain (azTrigger c ls) := by
  induction ls with
  | nil => exact .nil
  | cons a l ih =>
    cases l with
    | nil => exact .cons rfl (.single rfl)
    | cons b l => exact .cons rfl (.cons rfl ih)

theorem plain_azReads (c x y b ls) : Plain (azReads c x y b ls) := by
  induction ls generalizing b with
  | nil => exact .nil
  | cons a l ih =>
    cases l with
    | nil => exact .single rfl
    | cons b l => exact .cons rfl (ih _)

theorem plain_azPoll (c L) : Plain (azPollSeq c L) := by
  unfold azPollSeq
  split
  · exact plain_azReads _ _ _ _ _
  · exact .app (plain_azReads _ _ _ _ _) (.single rfl)

theorem plain_az (c L) : Plain (azCode c L) := by
  refine .app (.app ?_ (plain_azPoll _ _)) ?_
  · exact .app (.app (.app (.app .map .map) (.single rfl)) (plain_deassert _ _ _))
      (plain_azTrigger _ _)
  · exact .app (.flat fun _ => .flat fun _ => .cons rfl (.single rfl)) (.single rfl)

theorem plain_txRestart (c l) : Plain (txRestartSeq c l) :=
  .app (.app (.app (.app (plain_assert _ _ _) (plain_assert _ _ _)) (plain_deassert _ _ _))
    (plain_wait _ _)) (plain_deassert _ _ _)

theorem plain_acq (c L) : Plain (acqCode c L) := by
  refine .app (.app (.app (.app (.app (.app .map .map) (plain_wait _ _)) .map) (plain_wait _ _))
    .map) ?_
  cases L with
  | lane l => exact plain_txRestart _ _
  | allLanes => exact .app (plain_assert _ _ _) (plain_deassert _ _ _)

theorem plain_lock (c L) : Plain (lockCode c L) := by
  refine .app (.app (.app ?_ .map) ?_) (.cons rfl (.cons rfl (.cons rfl (.single rfl))))
  · cases L <;> exact .single rfl
  · cases L
    · exact plain_deassert _ _ _
    · exact .app (plain_deassert _ _ _) (.cons rfl (.single rfl))

theorem plain_fp (c L) : Plain (fpCode c L) := .app (plain_acq _ _) (plain_lock _ _)

theorem plain_ra (c L) : Plain (raCode c L) := by
  cases L with
  | lane l => exact .app (plain_assert _ _ _) (plain_wait _ _)
  | allLanes =>
    refine .cons rfl ?_
    split
    · exact .single rfl
    · exact .cons rfl (.single rfl)

/-- What the label before a primitive of a recovery of `L` by `ag` can be. -/
def PreOk (L : LaneId) (ag : Agent) : Pre → Prop
  | .recoverStart L' ag' => L' = L ∧ ag' = ag
  | .stage f => f = .calibratingAZ ∨ f = .acquiringFrequency ∨ f = .lockTesting
  | .nothing => True

theorem mem_withPre {p ops op} (h : op ∈ withPre p ops) : op.pre = p ∨ op ∈ ops := by
  cases ops with
  | nil => simp [withPre] at h
  | cons a l =>
    rcases List.mem_cons.mp h with rfl | h
    · exact .inl rfl
    · exact .inr (List.mem_cons_of_mem _ h)

/-- The labels of a recovery: its own start, the three later stages, nothing else. -/
theorem recover_pre (c L ag) : ∀ op ∈ recoverCode c L ag, PreOk L ag op.pre := by
  intro op ho
  simp only [recoverCode, List.mem_append] at ho
  rcases ho with ((h | h) | h) | h <;> rcases mem_withPre h with h | h
  · rw [h]; exact ⟨rfl, rfl⟩
  · rw [plain_ra _ _ _ h]; trivial
  · rw [h]; simp [PreOk]
  · rw [plain_az _ _ _ h]; trivial
  · rw [h]; simp [PreOk]
  · rw [plain_acq _ _ _ h]; trivial
  · rw [h]; simp [PreOk]
  · rw [plain_lock _ _ _ h]; trivial

/-- Only a recovery marks a stage or a start. -/
theorem code_plain (c a d i) (h : ∀ L, i ≠ .recover L) : Plain (codeOf c a d i) := by
  cases i
  case recover L => exact absurd rfl (h L)
  case probe => exact .cons rfl (.single rfl)
  case detach => exact .nil
  case regRead => exact .single rfl
  case regWrite => exact .single rfl
  case disableLolMonitor L =>
    show Plain (lolDisableSeq c L)
    unfold lolDisableSeq
    split
    · exact plain_assert _ _ _
    · exact plain_deassert _ _ _
  case toggleReset d L => exact plain_toggle _ _ _
  case runAutozero L => exact plain_az _ _
  case runFreqPll L => exact plain_fp _ _
  case txRestart l => exact plain_txRestart _ _
  all_goals first | exact plain_assert _ _ _ | exact plain_deassert _ _ _

/-- A command that marks the start of a recovery is RECOVER, run by the host. -/
theorem code_start (c a d i) : ∀ op ∈ codeOf c a d i, ∀ L ag, op.pre = .recoverStart L ag →
    ag = .host ∧ i = .recover L := by
  intro op ho L ag hp
  by_cases h : ∃ L, i = .recover L
  · obtain ⟨L', rfl⟩ := h
    have := recover_pre c L' .host op ho
    rw [hp] at this
    exact ⟨this.2, by rw [this.1]⟩
  · push Not at h
    rw [code_plain c a d i h op ho] at hp
    cases hp

/-! ## One primitive -/

/-- The fields that no primitive writes are as they were. -/
structure Kept (s t : State) : Prop where
  conf : t.conf = s.conf
  cmd : t.cmd = s.cmd
  argAddr : t.argAddr = s.argAddr
  argData : t.argData = s.argData
  busy : t.busy = s.busy
  doneFlag : t.doneFlag = s.doneFlag
  cmdRefused : t.cmdRefused = s.cmdRefused
  cmdOverrun : t.cmdOverrun = s.cmdOverrun
  outcome : t.outcome = s.outcome
  refuseReason : t.refuseReason = s.refuseReason
  monSample : t.monSample = s.monSample
  lock : t.lock = s.lock
  hostCmd : t.hostCmd = s.hostCmd
  bound : t.bound = s.bound
  transportFault : t.transportFault = s.transportFault
  monArmed : t.monArmed = s.monArmed
  monDue : t.monDue = s.monDue
  monRef : t.monRef = s.monRef
  monPeriod : t.monPeriod = s.monPeriod
  irq2 : t.irq2 = s.irq2
  irq3 : t.irq3 = s.irq3
  agenda : t.agenda = s.agenda
  turn : t.turn = s.turn
  grants : t.grants = s.grants
  hostProg : t.hostProg = s.hostProg

theorem Kept.refl (s : State) : Kept s s := by constructor <;> rfl

theorem Kept.trans {s t u : State} (h : Kept s t) (g : Kept t u) : Kept s u := by
  constructor <;> first
    | exact g.conf.trans h.conf
    | exact g.cmd.trans h.cmd
    | exact g.argAddr.trans h.argAddr
    | exact g.argData.trans h.argData
    | exact g.busy.trans h.busy
    | exact g.doneFlag.trans h.doneFlag
    | exact g.cmdRefused.trans h.cmdRefused
    | exact g.cmdOverrun.trans h.cmdOverrun
    | exact g.outcome.trans h.outcome
    | exact g.refuseReason.trans h.refuseReason
    | exact g.monSample.trans h.monSample
    | exact g.lock.trans h.lock
    | exact g.hostCmd.trans h.hostCmd
    | exact g.bound.trans h.bound
    | exact g.transportFault.trans h.transportFault
    | exact g.monArmed.trans h.monArmed
    | exact g.monDue.trans h.monDue
    | exact g.monRef.trans h.monRef
    | exact g.monPeriod.trans h.monPeriod
    | exact g.irq2.trans h.irq2
    | exact g.irq3.trans h.irq3
    | exact g.agenda.trans h.agenda
    | exact g.turn.trans h.turn
    | exact g.grants.trans h.grants
    | exact g.hostProg.trans h.hostProg

theorem kept_applyPre (p : Pre) (s : State) : Kept s (applyPre p s) := by
  cases p <;> constructor <;> rfl

theorem kept_applyPost (p : Post) (s : State) : Kept s (applyPost p s) := by
  cases p <;> constructor <;> rfl

theorem kept_record (e : Event) (s : State) : Kept s (record e s) := by constructor <;> rfl

theorem kept_drawReply (s : State) : Kept s (drawReply s) := by constructor <;> rfl

theorem kept_nextAttempt (s : State) : Kept s (nextAttempt s) := by constructor <;> rfl

theorem kept_waitFor (t : Delay) (s : State) : Kept s (waitFor t s) := by constructor <;> rfl

theorem kept_azNext (d : Bool) (x y n : Nat) (s : State) : Kept s (azNext d x y n s).2 := by
  unfold azNext
  split
  · exact .refl s
  · split
    · exact .refl s
    · split
      · exact .refl s
      · exact kept_nextAttempt s

/-- Where a poll's attempt can end: at a later or an earlier primitive, or with AutoZeroTimeout. -/
theorem azNext_pos (d : Bool) (x y n : Nat) (s : State) :
    (∃ k, (azNext d x y n s).1 = .run k) ∨
      (azNext d x y n s).1 = .returned .autoZeroTimeout := by
  unfold azNext
  split
  · exact .inl ⟨_, rfl⟩
  · split
    · exact .inr rfl
    · split <;> exact .inl ⟨_, rfl⟩

/-- What using a value that was read can do: it goes on, to a primitive or with a failing outcome,
and the event, the orchestrator's registers and every field of `Kept` stay. -/
theorem useValue_shape (u : Use) (v : Word) (n : Nat) (inv : Invocation) (go : Continuation)
    (s : State) :
    ∃ p inv' t, useValue u v n inv go s = go p inv' t ∧ inv'.proc = inv.proc ∧ Kept s t ∧
      t.trace = s.trace ∧ t.fsm = s.fsm ∧ t.reason = s.reason ∧ t.target = s.target ∧
      t.agent = s.agent ∧ t.inv = s.inv ∧
      ((∃ k, p = .run k) ∨ ∃ o, p = .returned o ∧ failing o = true) := by
  cases u with
  | keep | discard | result | resultHi | azPoll _ | vcoUpdate _ =>
    exact ⟨_, _, _, rfl, rfl, by constructor <;> rfl, rfl, rfl, rfl, rfl, rfl, rfl, .inl ⟨_, rfl⟩⟩
  | identity =>
    refine ⟨_, _, _, rfl, rfl, by constructor <;> rfl, rfl, rfl, rfl, rfl, rfl, rfl, ?_⟩
    split
    · exact .inl ⟨_, rfl⟩
    · exact .inr ⟨_, rfl, rfl⟩
  | lockTest k =>
    refine ⟨_, _, _, rfl, rfl, .refl s, rfl, rfl, rfl, rfl, rfl, rfl, ?_⟩
    split
    · exact .inl ⟨_, rfl⟩
    · exact .inr ⟨_, rfl, rfl⟩
  | regcal x y =>
    refine ⟨_, _, _, rfl, rfl, by constructor <;> rfl, rfl, rfl, rfl, rfl, rfl, rfl, ?_⟩
    split
    · exact .inl ⟨_, rfl⟩
    · split
      · exact .inr ⟨_, rfl, rfl⟩
      · exact .inl ⟨_, rfl⟩
  | azLast b x y =>
    refine ⟨_, _, _, rfl, rfl, kept_azNext _ _ _ _ _, ?_, ?_, ?_, ?_, ?_, ?_, ?_⟩
    rotate_right
    · rcases azNext_pos ((b || inv.allDone) && test v Config.azDoneBit) x y n s with h | h
      · exact .inl h
      · exact .inr ⟨_, h, rfl⟩
    all_goals
      unfold azNext
      split
      · rfl
      · split
        · rfl
        · split <;> rfl

/-- What performing a primitive can do: it records one event that is no failure and goes on, to a
primitive or with a failing outcome; or it records one failed transaction and the procedure fails. -/
theorem perform_shape (op : MicroOp) (n : Nat) (inv : Invocation) (go : Continuation)
    (fail : State → State) (s : State) :
    (∃ e p inv' u, perform op n inv go fail s = go p inv' u ∧ inv'.proc = inv.proc ∧
      u.trace = e :: s.trace ∧ isFailure e = false ∧ (isTransaction e = true ∨ ∃ t, e = .wait t) ∧
      ((∃ k, p = .run k) ∨ ∃ o, p = .returned o ∧ failing o = true) ∧ Kept s u ∧ u.inv = s.inv ∧
      u.fsm = (applyPre op.pre s).fsm ∧ u.reason = (applyPre op.pre s).reason ∧
      u.target = (applyPre op.pre s).target ∧ u.agent = (applyPre op.pre s).agent) ∨
    (∃ e, perform op n inv go fail s = fail (record e (drawReply (applyPre op.pre s))) ∧
      isFailure e = true ∧ isTransaction e = true) := by
  have hk := kept_applyPre op.pre s
  have ht : (applyPre op.pre s).trace = s.trace := by cases op.pre <;> rfl
  have hi : (applyPre op.pre s).inv = s.inv := by cases op.pre <;> rfl
  have hpost : ∀ (p : Post) (t : State), (applyPost p t).trace = t.trace ∧
      (applyPost p t).inv = t.inv ∧ (applyPost p t).fsm = t.fsm ∧
      (applyPost p t).reason = t.reason ∧ (applyPost p t).target = t.target ∧
      (applyPost p t).agent = t.agent := by
    intro p t
    cases p <;> exact ⟨rfl, rfl, rfl, rfl, rfl, rfl⟩
  cases hw : writtenWord op.act inv s with
  | some aw =>
    obtain ⟨a, w⟩ := aw
    rw [perform_write hw]
    cases hr : nextReply s with
    | fail => exact .inr ⟨_, rfl, rfl, rfl⟩
    | ok v =>
      obtain ⟨h1, h2, h3, h4, h5, h6⟩ :=
        hpost op.post (record (.wr a w) (drawReply (applyPre op.pre s)))
      exact .inl ⟨.wr a w, _, _, _, rfl, rfl, h1.trans (by simp [ht]), rfl, .inl rfl, .inl ⟨_, rfl⟩,
        hk.trans ((kept_drawReply _).trans ((kept_record _ _).trans (kept_applyPost _ _))),
        h2.trans hi, h3, h4, h5, h6⟩
  | none =>
    cases ha : op.act with
    | write _ _ => simp [writtenWord, ha] at hw
    | writeVco _ _ => simp [writtenWord, ha] at hw
    | writeBack _ _ => simp [writtenWord, ha] at hw
    | wait t back =>
      rw [perform_wait ha]
      obtain ⟨h1, h2, h3, h4, h5, h6⟩ := hpost op.post (waitFor t (applyPre op.pre s))
      exact .inl ⟨.wait t, _, _, _, rfl, rfl, h1.trans (by simp [ht]), rfl, .inr ⟨_, rfl⟩,
        .inl ⟨_, rfl⟩, hk.trans ((kept_waitFor _ _).trans (kept_applyPost _ _)), h2.trans hi,
        h3, h4, h5, h6⟩
    | read a u =>
      rw [perform_read ha]
      cases hr : nextReply s with
      | fail => exact .inr ⟨_, rfl, rfl, rfl⟩
      | ok v =>
        obtain ⟨p, inv', t, h0, h1, h2, h3, h4, h5, h6, h7, h8, h9⟩ :=
          useValue_shape u v n inv go (record (.rd a v) (drawReply (applyPre op.pre s)))
        exact .inl ⟨.rd a v, p, inv', t, h0, h1, h3.trans (by simp [ht]), rfl, .inl rfl, h9,
          hk.trans ((kept_drawReply _).trans ((kept_record _ _).trans h2)), h8.trans hi,
          h4, h5, h6, h7⟩

end Sys2Proof.Machine
end

