-- ==== Sys2Proof/Tests/Slice0.lean ====
section
/-! SUPPORT. Tests: the decoder on words written out from spec/30_encoding, the checks of
WellFormed.lean, one step of each command with the vectors of spec/95_test_vectors, and for each
statement with hypotheses a state and operands that meet them. -/

namespace Sys2Proof.Tests

open Sys2Proof Sys2Proof.Machine Sys2Proof.Machine.Reference

/-! ## The test configuration (spec/95_test_vectors section 0) -/

/-- TCFG, which the spec invents for its vectors, with 10, 1, 2 and 7 for its symbolic delays and R7's
figures for the approximate ones. -/
def tcfg : Cfg where
  hasIrqRetry := false
  regcalPollLimit := none
  tRegcalPoll := 0
  tRxRst := 2000
  tAzPoll := 100
  tTxRestart := 1500
  tMon := 2500000
  tToggle := 10
  tFaShort := 1
  tFaLong := 2
  tIrqRetry := 7
  aMrst := 0x8000#16
  aSaOvrEn := 0x8001#16
  aRegcal := 0x8002#16
  bRegcal := 0
  aAggLock := 0x8003#16
  bAggLock := 0
  aAggLaneCtrl := 0x8004#16
  bTxen := 0
  aFifo := 0x8005#16
  patFifoAssert := 0x0001#16
  patFifoClear := 0x0000#16
  aLol := 0x8006#16
  aLos := 0x8007#16
  aMisc := 0x800A#16
  baseOscMan := 0x0010#16
  baseRxMain := 0x0020#16
  baseSaOfs := [0x0030#16, 0x0031#16, 0x0032#16, 0x0033#16, 0x0034#16, 0x0035#16, 0x0036#16,
    0x0037#16, 0x0038#16]
  baseFaCtrl := 0x0040#16
  baseTxpllStat := 0x0050#16
  bLock := 0
  baseOscCode := 0x0060#16
  fOscCodeHi := 15
  fOscCodeLo := 0
  patFaEnable := 0x0001#16
  patFaStart := 0x0003#16
  patFaCont := 0x0007#16
  patOscFinal := 0x0000#16
  regFaStart := .faCtrl
  regFaCont := .faCtrl
  ltRxRst := .perLaneBit 0x0070#16 0
  ltTxcoreRst := .perLaneBit 0x0070#16 1
  ltTxpllRst := .perLaneBit 0x0070#16 2
  ltRxPd := .laneBits 0x8008#16 4
  ltLolDis := .laneBits 0x8009#16 0
  atRxPd := .laneBitsAll 0x8008#16 4
  atLolDis := .eachLane
  loldisSet := true

/-! ## WellFormed: each check refuses an ill-formed configuration (R8) -/

theorem test_tcfg_ok : tcfg.wellFormed = true := by decide

theorem test_base_top : laneBaseOk 0xFCFF#16 = true ∧ laneBaseOk 0xFD00#16 = false := by decide

theorem test_base_at_id : laneBaseOk 0x0002#16 = false ∧ laneBaseOk 0x0003#16 = false := by decide

theorem test_bit_index : bitOk 15 = true ∧ bitOk 16 = false := by decide

theorem test_offset : offOk 12 = true ∧ offOk 13 = false := by decide

theorem test_aggregate_at_id :
    notIdAddr 0x0003#16 = false ∧ notIdAddr 0x0004#16 = true := by decide

theorem test_lane_targets : (LaneTarget.perLaneBit 0xFD00#16 0).ok = false ∧
    (LaneTarget.perLaneBit 0x0070#16 16).ok = false ∧ (LaneTarget.laneBits 0x8008#16 13).ok = false ∧
    (LaneTarget.laneBits 0x0002#16 0).ok = false := by decide

theorem test_all_targets : (AllTarget.globalBit 0x8008#16 16).ok = false ∧
    (AllTarget.globalBit 0x0003#16 0).ok = false ∧ (AllTarget.laneBitsAll 0x8008#16 13).ok = false ∧
    (AllTarget.laneBitsAll 0x0002#16 0).ok = false ∧ AllTarget.eachLane.ok = true := by decide

theorem test_refuses_base : ({ tcfg with baseRxMain := 0xFD00#16 } : Cfg).wellFormed = false := by
  decide

theorem test_refuses_bit : ({ tcfg with bTxen := 16 } : Cfg).wellFormed = false := by decide

theorem test_refuses_offset :
    ({ tcfg with ltRxPd := .laneBits 0x8008#16 13 } : Cfg).wellFormed = false := by decide

theorem test_refuses_all_target :
    ({ tcfg with atRxPd := .globalBit 0x8008#16 16 } : Cfg).wellFormed = false := by decide

theorem test_refuses_code_field :
    ({ tcfg with fOscCodeHi := 3, fOscCodeLo := 4 } : Cfg).wellFormed = false := by decide

theorem test_refuses_limit_zero :
    ({ tcfg with regcalPollLimit := some 0 } : Cfg).wellFormed = false := by decide

theorem test_refuses_id_address :
    ({ tcfg with aLol := 0x0002#16 } : Cfg).wellFormed = false := by decide

theorem test_refuses_eight_offsets :
    ({ tcfg with baseSaOfs := tcfg.baseSaOfs.tail } : Cfg).wellFormed = false := by decide

theorem test_refuses_delays :
    ({ tcfg with tFaLong := 1 } : Cfg).wellFormed = false := by decide

/-! ## Decode: each word written out as OPC, LANE, DOM, RSV (R100 to R103) -/

theorem test_decode_probe : decode 0b00000001_000_000_00#16 = .ok .probe := by decide

theorem test_decode_detach : decode 0b00000010_000_000_00#16 = .ok .detach := by decide

theorem test_decode_reg_read : decode 0b00000011_000_000_00#16 = .ok .regRead := by decide

theorem test_decode_reg_write : decode 0b00000100_000_000_00#16 = .ok .regWrite := by decide

theorem test_decode_assert_rx :
    decode 0b00010000_100_000_00#16 = .ok (.assertRxReset .allLanes) := by decide

theorem test_decode_deassert_rx :
    decode 0b00010001_011_000_00#16 = .ok (.deassertRxReset (.lane .l3)) := by decide

theorem test_decode_assert_tx_core :
    decode 0b00010010_011_000_00#16 = .ok (.assertTxCoreReset (.lane .l3)) := by decide

theorem test_decode_deassert_tx_core :
    decode 0b00010011_100_000_00#16 = .ok (.deassertTxCoreReset .allLanes) := by decide

theorem test_decode_assert_tx_pll :
    decode 0b00010100_001_000_00#16 = .ok (.assertTxPllReset (.lane .l1)) := by decide

theorem test_decode_deassert_tx_pll :
    decode 0b00010101_100_000_00#16 = .ok (.deassertTxPllReset .allLanes) := by decide

theorem test_decode_assert_powerdown :
    decode 0b00010110_010_000_00#16 = .ok (.assertRxPowerdown (.lane .l2)) := by decide

theorem test_decode_deassert_powerdown :
    decode 0b00010111_100_000_00#16 = .ok (.deassertRxPowerdown .allLanes) := by decide

theorem test_decode_lol :
    decode 0b00011000_011_000_00#16 = .ok (.disableLolMonitor (.lane .l3)) := by decide

theorem test_decode_toggle :
    decode 0b00011001_001_010_00#16 = .ok (.toggleReset .txPll (.lane .l1)) := by decide

theorem test_decode_autozero :
    decode 0b00100000_010_000_00#16 = .ok (.runAutozero (.lane .l2)) := by decide

theorem test_decode_freq_pll :
    decode 0b00100001_011_000_00#16 = .ok (.runFreqPll (.lane .l3)) := by decide

theorem test_decode_tx_restart :
    decode 0b00100010_010_000_00#16 = .ok (.txRestart .l2) := by decide

theorem test_decode_recover :
    decode 0b00110000_010_000_00#16 = .ok (.recover (.lane .l2)) := by decide

/-- The reserved encodings of R109, one of each kind (spec/95 L2.1). -/
theorem test_decode_reserved :
    decode 0x0000#16 = .error .reservedOpcode ∧ decode 0x0500#16 = .error .reservedOpcode ∧
    decode 0xFFFC#16 = .error .reservedOpcode ∧ decode 0x0101#16 = .error .rsvNotZero ∧
    decode 0x0120#16 = .error .laneNotZero ∧ decode 0x0104#16 = .error .domNotZero ∧
    decode 0x30A0#16 = .error .reservedLane ∧ decode 0x30E0#16 = .error .reservedLane ∧
    decode 0x3044#16 = .error .domNotZero ∧ decode 0x190C#16 = .error .reservedDomain ∧
    decode 0x191C#16 = .error .reservedDomain ∧ decode 0x2280#16 = .error .allLanesOnTxRestart ∧
    decode 0x22A0#16 = .error .reservedLane := by decide

/-- R111's examples. -/
theorem test_encode : encode (.recover (.lane .l2)) = 0x3040#16 ∧
    encode (.recover .allLanes) = 0x3080#16 ∧
    encode (.toggleReset .txPll (.lane .l1)) = 0x1928#16 := by decide

theorem test_table_word : decodeTableWord 16 0x3040 = some (.recover (.lane .l2)) ∧
    decodeTableWord 16 0x2280 = none := by decide

/-- The expansions of R113. -/
theorem test_pseudo :
    rdPhy 0x0003#16 = [.hw 0x1 0x0003#16, .hw 0x0 0x0300#16, .waitDone, .hr 0x3] ∧
    wrPhy 0x1234#16 0xBEEF#16 =
      [.hw 0x1 0x1234#16, .hw 0x2 0xBEEF#16, .hw 0x0 0x0400#16, .waitDone] ∧
    bringUp (.lane .l2) = [.hw 0x0 0x0100#16, .waitDone, .hw 0x0 0x3040#16, .waitDone] := by decide

/-! ## States -/

/-- TCFG as a machine's configuration. -/
def conf : WfCfg := ⟨tcfg, test_tcfg_ok⟩

/-- TCFG with the interrupt retry of variant 2. -/
def confIrq : WfCfg := ⟨{ tcfg with hasIrqRetry := true }, by decide⟩

/-- After reset under TCFG. -/
def idle : State := State.resetWith conf true true

/-- Bound, the monitor armed. -/
def boundS : State := { idle with bound := true, monArmed := true }

/-- Bound, with the interrupt retry. -/
def irqS : State := { State.resetWith confIrq true true with bound := true, monArmed := true }

/-- The command `i` accepted, with the PHY answers `rs` to come. -/
def asked (i : Instr) (rs : List Reply) (s : State) : State :=
  { s with
    cmd := encode i
    hostCmd := some { cmd := i, addr := 0x1234#16, data := 0xBEEF#16 }
    busy := true
    phy := rs
    grants := [.host]
    agenda := [.sequencer .l0] }

/-- The procedure `p` running at its position `x`, `v` the value last read. -/
def inside (p : Proc) (x : Position) (v : Word) (s : State) : State :=
  { s with
    lock := some (procAgent p)
    inv := some { proc := p, pos := x, v := v, allDone := true }
    agenda := [.sequencer .l0] }

/-- The command `i` running at the primitive `n`, `v` the value last read, `r` the next answer. -/
def running (i : Instr) (n : Nat) (v : Word) (r : Reply) : State :=
  inside (.command i 0x1234#16 0xBEEF#16) (.run n) v (asked i [r] boundS)

/-- The last event after one step of `i`. -/
def lastEvent (i : Instr) (s : State) : Option Event :=
  match exec i s with
  | .next t => t.trace.head?
  | .fault _ | .refused _ => none

/-- The event of the primitive `n` of `i`, `v` the value last read. -/
def eventAt (i : Instr) (n : Nat) (v : Word) : Option Event :=
  lastEvent i (running i n v (.ok 0x0000#16))

/-- The position after one step of `i`. -/
def positionAfter (i : Instr) (s : State) : Option Position :=
  match exec i s with
  | .next t => t.inv.map Invocation.pos
  | .fault _ | .refused _ => none

/-- A part of the state after one step of `i`. -/
def after {α : Type} (f : State → α) (i : Instr) (s : State) : Option α :=
  match exec i s with
  | .next t => some (f t)
  | .fault _ | .refused _ => none

/-! ## One step of each command (spec/95_test_vectors L1, L2) -/

/-- R290's example. -/
theorem test_probe_matches :
    positionAfter .probe (running .probe 1 0x0210#16 (.ok 0x7440#16)) = some (.run 2) := by decide

theorem test_probe_refuses_revision : positionAfter .probe
    (running .probe 1 0x0210#16 (.ok 0x7441#16)) = some (.returned .deviceIdentityMismatch) := by
  decide

theorem test_detach_unbinds : after (fun t => (t.bound, t.outcome)) .detach (asked .detach [] boundS)
    = some (false, some .success) := by decide

/-- R144's example: the answer of the PHY is RESULT. -/
theorem test_reg_read : after State.result .regRead (asked .regRead [.ok 0x7440#16] idle)
    = some 0x7440#16 := by decide

theorem test_reg_read_fails : after (fun t => (t.result, t.outcome)) .regRead
    (asked .regRead [.fail] { idle with result := 0xABCD#16 })
    = some (0xABCD#16, some .transportError) := by decide

/-- R145's example. -/
theorem test_reg_write :
    lastEvent .regWrite (asked .regWrite [.ok 0#16] idle) = some (.wr 0x1234#16 0xBEEF#16) := by
  decide

theorem test_reg_write_fails : after (fun t => (t.trace.head?, t.transportFault)) .regWrite
    (asked .regWrite [.fail] idle) =
      some (some (.ended .host .regWrite none .transportError), true) := by decide

/-- L1.1: 0xA5A4 with the RX reset bit asserted is 0xA5A5. -/
theorem test_assert_rx :
    eventAt (.assertRxReset (.lane .l0)) 1 0xA5A4#16 = some (.wr 0x0070#16 0xA5A5#16) := by decide

/-- L1.1: and de-asserted 0xA5A4. -/
theorem test_deassert_rx :
    eventAt (.deassertRxReset (.lane .l0)) 1 0xA5A5#16 = some (.wr 0x0070#16 0xA5A4#16) := by decide

theorem test_assert_tx_core :
    eventAt (.assertTxCoreReset (.lane .l1)) 1 0x0000#16 = some (.wr 0x0170#16 0x0002#16) := by decide

theorem test_deassert_tx_core :
    eventAt (.deassertTxCoreReset .allLanes) 1 0xFFFF#16 = some (.wr 0x8000#16 0xFBFF#16) := by decide

theorem test_assert_tx_pll :
    eventAt (.assertTxPllReset .allLanes) 1 0x0000#16 = some (.wr 0x8000#16 0x0800#16) := by decide

theorem test_deassert_tx_pll :
    eventAt (.deassertTxPllReset (.lane .l3)) 1 0x0007#16 = some (.wr 0x0370#16 0x0003#16) := by decide

theorem test_assert_powerdown :
    eventAt (.assertRxPowerdown .allLanes) 1 0x0000#16 = some (.wr 0x8008#16 0x00F0#16) := by decide

theorem test_deassert_powerdown :
    eventAt (.deassertRxPowerdown (.lane .l2)) 1 0xFFFF#16 = some (.wr 0x8008#16 0xFFBF#16) := by
  decide

/-- EachLane: the fourth target is lane 3's bit. -/
theorem test_lol_each_lane :
    eventAt (.disableLolMonitor .allLanes) 7 0x0007#16 = some (.wr 0x8009#16 0x000F#16) := by decide

theorem test_toggle_waits :
    eventAt (.toggleReset .txPll (.lane .l1)) 2 0x1234#16 = some (.wait .tToggle) := by decide

theorem test_toggle_restores :
    eventAt (.toggleReset .txPll (.lane .l1)) 3 0x1234#16 = some (.wr 0x0170#16 0x1234#16) := by decide

theorem test_autozero_programs_trim :
    eventAt (.runAutozero (.lane .l2)) 0 0x0000#16 = some (.wr 0x0210#16 0x0186#16) := by decide

/-- L1.2: the 64th attempt without completion ends the stage. -/
theorem test_autozero_times_out : positionAfter (.runAutozero (.lane .l0))
    { running (.runAutozero (.lane .l0)) 7 0#16 (.ok 0xFFFB#16) with azCount := 64 }
    = some (.returned .autoZeroTimeout) := by decide

/-- L1.3: an unlocked lane ends the stage, its OSC_CODE not read. -/
theorem test_freq_pll_unlocked : positionAfter (.runFreqPll (.lane .l3))
    (running (.runFreqPll (.lane .l3)) 15 0#16 (.ok 0xFFFE#16)) = some (.returned .txPllNotLocked) := by
  decide

/-- L1.3: OSC_CODE 0x0200 gives VCO3 = 0x0205. -/
theorem test_freq_pll_trims : after State.vco (.runFreqPll (.lane .l3))
    (running (.runFreqPll (.lane .l3)) 16 0#16 (.ok 0x0200#16))
    = some { l0 := 0x0186#16, l1 := 0x0186#16, l2 := 0x0186#16, l3 := 0x0205#16 } := by decide

theorem test_tx_restart_waits :
    eventAt (.txRestart .l2) 6 0x0000#16 = some (.wait .tTxRestart) := by decide

theorem test_recover_all_reset :
    eventAt (.recover .allLanes) 0 0x0000#16 = some (.wr 0x8000#16 0x9C00#16) := by decide

theorem test_recover_enters : after State.fsm (.recover (.lane .l2))
    (asked (.recover (.lane .l2)) [.ok 0#16] boundS) = some .resetAsserted := by decide

/-- P1 of spec/95: FSM reads 0x0025 after a RECOVER of lane 2 that locked. -/
theorem test_fsm_word :
    fsmWord { idle with fsm := .locked, target := some (.lane .l2) } = 0x0025#16 ∧
    fsmWord { idle with fsm := .failed, reason := some .txPllNotLocked,
                        target := some (.lane .l2) } = 0x0226#16 ∧
    fsmWord idle = 0x0F70#16 ∧ statusWord idle = 0x0F00#16 := by decide

/-! ## Witnesses: states and operands that meet the hypotheses of each statement -/

/-- A state's next `n` answers are the words `f 0`, `f 1`, … -/
def answering (n : Nat) (f : Nat → Word) (s : State) : State :=
  { s with phy := (List.range n).map fun k => .ok (f k) }

theorem answered_of_answering {n m : Nat} {f : Nat → Word} {s : State} (h : m ≤ n) :
    Answered (answering n f s) m f := by
  intro k hk
  have hk' : k < n := by omega
  simp [answering, replyAt, hk']

/-- The command `i` accepted on a bound block under TCFG, its answers `f`. -/
def ready (i : Instr) (n : Nat) (f : Nat → Word) : State := answering n f (asked i [] boundS)

theorem ready_ready (i : Instr) (n : Nat) (f : Nat → Word) :
    Ready i 0x1234#16 0xBEEF#16 (ready i n f) := ⟨rfl, rfl⟩

theorem ready_asked (i : Instr) (rs : List Reply) :
    Ready i 0x1234#16 0xBEEF#16 (asked i rs boundS) := ⟨rfl, rfl⟩

theorem running_running (i : Instr) (n : Nat) (v : Word) (r : Reply) :
    Running i 0x1234#16 0xBEEF#16
      { proc := .command i 0x1234#16 0xBEEF#16, pos := .run n, v := v, allDone := true }
      (running i n v r) := ⟨rfl, rfl, rfl⟩

/-- The next move is `m`. -/
def moving (m : Move) (s : State) : State := { s with agenda := [m] }

/-! Encoding, addressing and configuration. -/

theorem witness_ReservedBitsIllegal :
    (0x3041#16).extractLsb' 0 2 ≠ 0#2 ∧ (0x3042#16).extractLsb' 0 2 ≠ 0#2 ∧
    (0x3043#16).extractLsb' 0 2 ≠ 0#2 := by decide

theorem witness_LaneAddressesDoNotWrap :
    0x0010#16 ∈ conf.cfg.perLaneBases ∧ 0x0038#16 ∈ conf.cfg.perLaneBases ∧
    .perLaneBit 0x0070#16 2 ∈ conf.cfg.laneTargets := by decide

theorem witness_ResetTargets :
    laneTargetOf tcfg .rxRst = .perLaneBit 0x0070#16 0 ∧
    laneTargetOf tcfg .rxPd = .laneBits 0x8008#16 4 ∧
    allTargetOf tcfg .rxRst = .globalBit 0x8000#16 15 ∧
    allTargetOf tcfg .rxPd = .laneBitsAll 0x8008#16 4 ∧ allTargetOf tcfg .lolDis = .eachLane := by
  decide

theorem base_admitted {b : Word} (h : laneBaseOk b = true) : b.toNat + 3 * 0x100 ≤ 0xFFFF ∧
    ∀ l : Lane, laneAddr b l ≠ 0x0002#16 ∧ laneAddr b l ≠ 0x0003#16 := by
  simp only [laneBaseOk, baseOk, laneAddrs, List.all_cons, List.all_nil, notIdAddr, Bool.and_eq_true,
    decide_eq_true_eq, Bool.and_true] at h
  obtain ⟨h0, h1, h2, h3, h4⟩ := h
  refine ⟨h0, fun l => ?_⟩
  cases l
  · simpa [laneAddr, idx, Config.aIdHi, Config.aIdLo] using h1
  · exact h2
  · exact h3
  · exact h4

theorem bit_admitted {k : Nat} (h : bitOk k = true) : k ≤ 15 := of_decide_eq_true h

theorem off_admitted {off : Nat} (h : offOk off = true) : off ≤ 12 := of_decide_eq_true h

/-- A configuration that is admitted, and one that is not: its bit index 16 is out of range. -/
theorem witness_ConfigureChecks :
    Admitted tcfg ∧ ¬ Admitted { tcfg with bTxen := 16 } := by
  refine ⟨?_, fun h => absurd (h.bits 16 (.inl (by decide))) (by decide)⟩
  have hb := List.all_eq_true.mp (show tcfg.perLaneBases.all laneBaseOk = true by decide)
  have hk := List.all_eq_true.mp (show tcfg.bitIndices.all bitOk = true by decide)
  have ha := List.all_eq_true.mp (show tcfg.aggregateAddrs.all notIdAddr = true by decide)
  have ht := List.all_eq_true.mp (show tcfg.laneTargets.all LaneTarget.ok = true by decide)
  have hall := List.all_eq_true.mp (show tcfg.allTargets.all AllTarget.ok = true by decide)
  constructor
  · rintro b (h | ⟨k, h⟩)
    · exact base_admitted (hb b h)
    · have g := ht _ h
      simp only [LaneTarget.ok, Bool.and_eq_true] at g
      exact base_admitted g.1
  · rintro k (h | ⟨b, h⟩ | ⟨a, h⟩)
    · exact bit_admitted (hk k h)
    · have g := ht _ h
      simp only [LaneTarget.ok, Bool.and_eq_true] at g
      exact bit_admitted g.2
    · have g := hall _ h
      simp only [AllTarget.ok, Bool.and_eq_true] at g
      exact bit_admitted g.2
  · rintro off (⟨a, h⟩ | ⟨a, h⟩)
    · have g := ht _ h
      simp only [LaneTarget.ok, Bool.and_eq_true] at g
      exact off_admitted g.2
    · have g := hall _ h
      simp only [AllTarget.ok, Bool.and_eq_true] at g
      exact off_admitted g.2
  · rintro a (h | ⟨off, h⟩ | ⟨k, h⟩ | ⟨off, h⟩)
    · exact of_decide_eq_true (ha a h)
    · exact of_decide_eq_true (Bool.and_eq_true_iff.mp (ht _ h)).1
    · exact of_decide_eq_true (Bool.and_eq_true_iff.mp (hall _ h)).1
    · exact of_decide_eq_true (Bool.and_eq_true_iff.mp (hall _ h)).1
  · decide
  · intro n h
    cases h
  · rfl
  · decide

/-! Well-formed states: a RECOVER of lane 2 that has just entered its auto-zero stage, a block whose
PROBE's final step is next, and one on which DETACH has completed. -/

def midRecover : State :=
  { inside (.command (.recover (.lane .l2)) 0x1234#16 0xBEEF#16) (.run 4) 0x0000#16
      (asked (.recover (.lane .l2)) [.ok 0x0000#16] boundS) with
    fsm := .calibratingAZ
    target := some (.lane .l2)
    trace := [.wr 0x0210#16 0x0186#16, .wait .tRxRst, .wr 0x0270#16 0x0001#16, .rd 0x0270#16 0x0000#16,
      .began .host .recover (some (.lane .l2))] }

def probing : State :=
  { inside (.command .probe 0x1234#16 0xBEEF#16) (.run 2) 0x0210#16 (asked .probe [] idle) with
    resultHi := 0x0210#16
    result := 0x7440#16
    trace := [.rd 0x0003#16 0x7440#16, .rd 0x0002#16 0x0210#16, .began .host .probe none] }

def detached : State := { idle with
  cmd := 0x0200#16, doneFlag := true, outcome := some .success
  trace := [.ended .host .detach none .success, .began .host .detach none]
  agenda := [.sequencer .l0] }

def detaching : State := { asked .detach [] boundS with monArmed := false }

theorem inv_idle : Inv idle := by
  refine ⟨?_, ?_, ?_, ?_, ?_, ?_⟩ <;> constructor <;>
    simp [idle, State.resetWith, IrqLine.reset, detachAccepted, inProgress, attemptRuns, cfgOf,
      conf, tcfg, Config.irqMaxAttempts]

theorem inv_boundS : Inv boundS := by
  refine ⟨?_, ?_, ?_, ?_, ?_, ?_⟩ <;> constructor <;>
    simp [boundS, idle, State.resetWith, IrqLine.reset, detachAccepted, inProgress, attemptRuns,
      cfgOf, conf, tcfg, Config.irqMaxAttempts]

theorem inv_midRecover : Inv midRecover := by
  refine ⟨?_, ?_, ?_, ?_, ?_, ?_⟩ <;> constructor <;>
    simp [midRecover, inside, asked, boundS, idle, State.resetWith, IrqLine.reset, detachAccepted,
      inProgress, attemptRuns, cfgOf, conf, tcfg, Config.irqMaxAttempts, procAgent, recovering,
      recoverOf, needsBound] <;> first | decide | (intros; subst_vars; simp_all)

theorem inv_probing : Inv probing := by
  refine ⟨?_, ?_, ?_, ?_, ?_, ?_⟩ <;> constructor <;>
    simp [probing, inside, asked, idle, State.resetWith, IrqLine.reset, detachAccepted,
      inProgress, attemptRuns, cfgOf, conf, tcfg, Config.irqMaxAttempts, procAgent, recovering,
      recoverOf, needsBound] <;> first | decide | (intros; subst_vars; simp_all <;> decide)

theorem inv_detached : Inv detached := by
  refine ⟨?_, ?_, ?_, ?_, ?_, ?_⟩ <;> constructor <;>
    simp [detached, idle, State.resetWith, IrqLine.reset, detachAccepted, inProgress, attemptRuns,
      cfgOf, conf, tcfg, Config.irqMaxAttempts]

theorem inv_detaching : Inv detaching := by
  refine ⟨?_, ?_, ?_, ?_, ?_, ?_⟩ <;> constructor <;>
    simp [detaching, asked, boundS, idle, State.resetWith, IrqLine.reset, detachAccepted,
      inProgress, attemptRuns, cfgOf, conf, tcfg, Config.irqMaxAttempts, needsBound]
  decide

theorem trace_midRecover : TraceInv midRecover := by constructor <;> rfl

theorem stage_midRecover : StageInv midRecover := by
  constructor
  · intro inv p n h1 h2 h3
    cases h1
    cases h2
    cases h3
    exact ⟨by decide, by decide⟩
  · intro inv p o h1 h2 h3
    cases h1
    rcases h3 with h | h <;> cases h

/-- A PROBE accepted after reset, and a tick due. -/
def askedProbe : State := asked .probe [.ok 0x0210#16] idle

def tickDue : State := { boundS with
  monDue := true
  phy := [.ok 0x0001#16]
  agenda := [.sequencer .l0]
  grants := [.monitor] }

theorem inv_askedProbe : Inv askedProbe := by
  refine ⟨?_, ?_, ?_, ?_, ?_, ?_⟩ <;> constructor <;>
    simp [askedProbe, asked, idle, State.resetWith, IrqLine.reset, detachAccepted,
      inProgress, attemptRuns, cfgOf, conf, tcfg, Config.irqMaxAttempts, needsBound]
  decide

theorem inv_tickDue : Inv tickDue := by
  refine ⟨?_, ?_, ?_, ?_, ?_, ?_⟩ <;> constructor <;>
    simp [tickDue, boundS, idle, State.resetWith, IrqLine.reset, detachAccepted,
      inProgress, attemptRuns, cfgOf, conf, tcfg, Config.irqMaxAttempts]

/-! Reset, steps and invariants. -/

theorem witness_ResetValues :
    nextMove (moving (.reset true false) midRecover) = .reset true false := rfl

theorem witness_StepKeepsInv : Inv midRecover ∧ ∃ t, step midRecover = .next t :=
  ⟨inv_midRecover, _, rfl⟩

theorem witness_StepKeepsTrace : TraceInv midRecover ∧ ∃ t, step midRecover = .next t :=
  ⟨trace_midRecover, _, rfl⟩

theorem witness_StagesInOrder : Inv midRecover ∧ StageInv midRecover ∧
    (∃ t, step midRecover = .next t) ∧ ∀ a b, nextMove midRecover ≠ .reset a b :=
  ⟨inv_midRecover, stage_midRecover, ⟨_, rfl⟩, by decide⟩

theorem witness_ReservedKindsNeverProduced : Inv probing ∧
    (∃ t, step probing = .next t ∧ t.outcome = some .success) ∧
    (∀ a b, nextMove probing ≠ .reset a b) ∧ 5#3 ≤ fieldLane 0x30A0#16 ∧
    nextMove (moving (.hostWrite 0x0 0x30A0#16) boundS) = .hostWrite 0x0 0x30A0#16 ∧
    (moving (.hostWrite 0x0 0x30A0#16) boundS).busy = false :=
  ⟨inv_probing, ⟨_, rfl, rfl⟩, by decide, by decide, rfl, rfl⟩

theorem witness_GateOnBound :
    (Inv askedProbe ∧ ∃ t es, step askedProbe = .next t ∧ t.trace = es ++ askedProbe.trace ∧
      .began .host .probe none ∈ es) ∧
    (Inv tickDue ∧ ∃ t es, step tickDue = .next t ∧ t.trace = es ++ tickDue.trace ∧
      .began .monitor .tick none ∈ es) :=
  ⟨⟨inv_askedProbe, _, [.rd 0x0002#16 0x0210#16, .began .host .probe none], rfl, rfl, by decide⟩,
    inv_tickDue, _, [.rd 0x0050#16 0x0001#16, .began .monitor .tick none], rfl, rfl, by decide⟩

theorem witness_StepRunsCommand :
    (Ready .regRead 0x1234#16 0xBEEF#16 (asked .regRead [.ok 7#16] boundS) ∧
      nextMove (asked .regRead [.ok 7#16] boundS) = .sequencer .l0 ∧
      grantChoice (takeTurn (asked .regRead [.ok 7#16] boundS)) = some (.host, [])) ∧
    nextMove (running .regRead 0 0#16 (.ok 7#16)) = .sequencer .l0 ∧
    decodeTableWord 16 0x3040 = some (.recover (.lane .l2)) :=
  ⟨⟨ready_asked _ _, rfl, by decide⟩, rfl, by decide⟩

theorem witness_OnlyDetachUnbinds :
    (∃ t, step (asked .detach [] boundS) = .next t ∧ t.bound = false) ∧
    (asked .detach [] boundS).bound = true ∧
    (∀ a b, nextMove (asked .detach [] boundS) ≠ .reset a b) ∧
    (∃ t, step (moving (.hostWrite 0x0 0x0200#16) boundS) = .next t ∧ t.monArmed = false) ∧
    boundS.monArmed = true ∧
    ∀ a b, nextMove (moving (.hostWrite 0x0 0x0200#16) boundS) ≠ .reset a b :=
  ⟨⟨_, rfl, by decide⟩, rfl, by decide, ⟨_, rfl, by decide⟩, rfl,
    by decide⟩

theorem witness_OnlyProbeBinds : Inv probing ∧ ∃ t, step probing = .next t ∧
    (probing.bound = false ∧ t.bound = true) ∧ probing.monArmed = false ∧ t.monArmed = true :=
  ⟨inv_probing, _, rfl, by decide, by decide, by decide⟩

theorem witness_TrimCacheWrites :
    let s := running (.runFreqPll (.lane .l3)) 16 0#16 (.ok 0x0200#16)
    ∃ t, step s = .next t ∧ t.vco ≠ s.vco ∧ ∀ a b, nextMove s ≠ .reset a b :=
  ⟨_, rfl, by decide, by decide⟩

theorem witness_LockHeldToEnd : TraceInv midRecover ∧ (∃ t, step midRecover = .next t) ∧
    midRecover.lock = some .host ∧ ∀ a b, nextMove midRecover ≠ .reset a b :=
  ⟨trace_midRecover, ⟨_, rfl⟩, rfl, by decide⟩

/-! The host interface. -/

/-- One request for each clause: an overrun, a reserved encoding, a PROBE while bound, a RECOVER
while unbound, an accepted command, an accepted DETACH. -/
theorem witness_CommandRequest :
    (nextMove (moving (.hostWrite 0x0 0x0300#16) midRecover) = .hostWrite 0x0 0x0300#16 ∧
      midRecover.busy = true) ∧
    (idle.busy = false ∧ ∀ c, decode 0x0500#16 ≠ .ok c) ∧
    (boundS.busy = false ∧ decode 0x0100#16 = .ok .probe ∧ boundS.bound = true) ∧
    (decode 0x3040#16 = .ok (.recover (.lane .l2)) ∧ needsBound (.recover (.lane .l2)) = true ∧
      idle.bound = false) ∧
    (decode 0x0300#16 = .ok .regRead ∧ Instr.regRead ≠ .probe ∧ needsBound .regRead = false) ∧
    decode 0x0200#16 = .ok .detach :=
  ⟨by decide, ⟨rfl, by rw [show decode 0x0500#16 = .error .reservedOpcode from by decide]; simp⟩,
    by decide, by decide, by decide, by decide⟩

theorem witness_FsmAndIrqFields : (cfgOf idle).hasIrqRetry = false ∧
    (cfgOf { irqS with irq2 := { irqS.irq2 with attempts := 8 } }).hasIrqRetry = true ∧
    ({ irqS with irq2 := { irqS.irq2 with attempts := 8 } } : State).irq2.attempts ≤ 8 ∧
    irqS.irq3.attempts ≤ 8 := by decide

theorem witness_ReservedAndReadOnly : nextMove (moving (.hostRead 0xD) boundS) = .hostRead 0xD ∧
    0xD#4 ≤ 0xD#4 ∧ nextMove (moving (.hostRead 0xF) boundS) = .hostRead 0xF ∧ 0xD#4 ≤ 0xF#4 ∧
    nextMove (moving (.hostWrite 0x3 0xFFFF#16) boundS) = .hostWrite 0x3 0xFFFF#16 ∧
    0x3#4 ≤ 0x3#4 ∧ Inv midRecover :=
  ⟨rfl, by decide, rfl, by decide, rfl, by decide, inv_midRecover⟩

theorem witness_HostAccesses : nextMove (moving (.hostRead 0x5) boundS) = .hostRead 0x5 ∧
    nextMove (moving (.hostWrite 0x1 7#16) boundS) = .hostWrite 0x1 7#16 ∧
    nextMove (moving (.hostWrite 0x2 7#16) boundS) = .hostWrite 0x2 7#16 := ⟨rfl, rfl, rfl⟩

theorem witness_HostProgramSteps :
    let s := { moving .hostProgram boundS with hostProg := rdPhy 0x0003#16 }
    nextMove s = .hostProgram ∧ s.hostProg.head? = some (.hw 0x1 0x0003#16) ∧
    ({ s with hostProg := [.waitDone] } : State).hostProg = .waitDone :: [] ∧
    ({ s with hostProg := [.hr 0x3] } : State).hostProg = .hr 0x3 :: [] := ⟨rfl, rfl, rfl, rfl⟩

/-! Results and completion. -/

theorem witness_RegReadResult :
    (Ready .regRead 0x1234#16 0xBEEF#16 (asked .regRead [.ok 7#16] boundS) ∧
      replyAt (asked .regRead [.ok 7#16] boundS) 0 = .ok 7#16) ∧
    (Ready .regRead 0x1234#16 0xBEEF#16 (asked .regRead [.fail] boundS) ∧
      replyAt (asked .regRead [.fail] boundS) 0 = .fail) :=
  ⟨⟨ready_asked _ _, rfl⟩, ready_asked _ _, rfl⟩

theorem witness_RegWriteResult :
    (Ready .regWrite 0x1234#16 0xBEEF#16 (asked .regWrite [.ok 7#16] boundS) ∧
      replyAt (asked .regWrite [.ok 7#16] boundS) 0 = .ok 7#16) ∧
    (Ready .regWrite 0x1234#16 0xBEEF#16 (asked .regWrite [.fail] boundS) ∧
      replyAt (asked .regWrite [.fail] boundS) 0 = .fail) :=
  ⟨⟨ready_asked _ _, rfl⟩, ready_asked _ _, rfl⟩

theorem witness_ProbeResult :
    let s := asked .probe [.ok 0x0210#16, .ok 0x7440#16] idle
    let u := asked .probe [.ok 0x0210#16, .ok 0x7441#16] idle
    (Ready .probe 0x1234#16 0xBEEF#16 s ∧ replyAt s 0 = .ok 0x0210#16 ∧ replyAt s 1 = .ok 0x7440#16) ∧
    (Ready .probe 0x1234#16 0xBEEF#16 u ∧ replyAt u 0 = .ok 0x0210#16 ∧ replyAt u 1 = .ok 0x7441#16 ∧
      ¬ (0x0210#16 = 0x0210#16 ∧ 0x7441#16 = 0x7440#16)) :=
  ⟨⟨⟨rfl, rfl⟩, rfl, rfl⟩, ⟨rfl, rfl⟩, rfl, rfl, by decide⟩

theorem witness_DetachResult :
    Ready .detach 0x1234#16 0xBEEF#16 (asked .detach [] boundS) := ready_asked _ _

/-- Each of the nine commands, two of them with their lanes' targets all answered. -/
theorem witness_ResetCommandResult :
    rmwOf tcfg (.assertRxReset .allLanes) = some (.rxRst, .allLanes, true) ∧
    rmwOf tcfg (.deassertRxReset .allLanes) = some (.rxRst, .allLanes, false) ∧
    rmwOf tcfg (.assertTxCoreReset .allLanes) = some (.txcoreRst, .allLanes, true) ∧
    rmwOf tcfg (.deassertTxCoreReset .allLanes) = some (.txcoreRst, .allLanes, false) ∧
    rmwOf tcfg (.assertTxPllReset .allLanes) = some (.txpllRst, .allLanes, true) ∧
    rmwOf tcfg (.deassertTxPllReset .allLanes) = some (.txpllRst, .allLanes, false) ∧
    rmwOf tcfg (.assertRxPowerdown .allLanes) = some (.rxPd, .allLanes, true) ∧
    rmwOf tcfg (.deassertRxPowerdown .allLanes) = some (.rxPd, .allLanes, false) ∧
    rmwOf tcfg (.disableLolMonitor .allLanes) = some (.lolDis, .allLanes, true) ∧
    Ready (.disableLolMonitor .allLanes) 0x1234#16 0xBEEF#16
      (ready (.disableLolMonitor .allLanes) 8 fun _ => 0x00A5#16) ∧
    Answered (ready (.disableLolMonitor .allLanes) 8 fun _ => 0x00A5#16)
      (2 * (targets tcfg .lolDis .allLanes).length) (fun _ => 0x00A5#16) :=
  ⟨rfl, rfl, rfl, rfl, rfl, rfl, rfl, rfl, rfl, ready_ready _ _ _, answered_of_answering (by decide)⟩

theorem witness_ToggleResult :
    Ready (.toggleReset .txPll (.lane .l1)) 0x1234#16 0xBEEF#16
      (ready (.toggleReset .txPll (.lane .l1)) 3 fun _ => 0x1234#16) ∧
    Answered (ready (.toggleReset .txPll (.lane .l1)) 3 fun _ => 0x1234#16)
      (3 * (targets tcfg .txpllRst (.lane .l1)).length) (fun _ => 0x1234#16) :=
  ⟨ready_ready _ _ _, answered_of_answering (by decide)⟩

/-- A toggle, and an ASSERT and then a DEASSERT of the RX reset of all lanes. -/
theorem witness_RoundTripLaws :
    (Ready (.toggleReset .txPll (.lane .l1)) 0x1234#16 0xBEEF#16
        (ready (.toggleReset .txPll (.lane .l1)) 3 fun _ => 0x1234#16) ∧
      Answered (ready (.toggleReset .txPll (.lane .l1)) 3 fun _ => 0x1234#16)
        (3 * (targets tcfg .txpllRst (.lane .l1)).length) fun _ => 0x1234#16) ∧
    (rmwOf tcfg (.assertRxReset .allLanes) = some (.rxRst, .allLanes, true) ∧
      rmwOf tcfg (.deassertRxReset .allLanes) = some (.rxRst, .allLanes, false) ∧
      Ready (.assertRxReset .allLanes) 0x1234#16 0xBEEF#16
        (ready (.assertRxReset .allLanes) 2 fun _ => 0x00A5#16) ∧
      Ready (.deassertRxReset .allLanes) 0x1234#16 0xBEEF#16
        (ready (.deassertRxReset .allLanes) 2 fun _ => 0x80A5#16) ∧
      Answered (ready (.assertRxReset .allLanes) 2 fun _ => 0x00A5#16)
        (2 * (targets tcfg .rxRst .allLanes).length) (fun _ => 0x00A5#16) ∧
      Answered (ready (.deassertRxReset .allLanes) 2 fun _ => 0x80A5#16)
        (2 * (targets tcfg .rxRst .allLanes).length) fun _ => 0x80A5#16) :=
  ⟨⟨ready_ready _ _ _, answered_of_answering (by decide)⟩, rfl, rfl, ready_ready _ _ _,
    ready_ready _ _ _, answered_of_answering (by decide), answered_of_answering (by decide)⟩

theorem witness_TxRestartResult :
    Ready (.txRestart .l2) 0x1234#16 0xBEEF#16 (ready (.txRestart .l2) 8 fun _ => 0x1234#16) ∧
    Answered (ready (.txRestart .l2) 8 fun _ => 0x1234#16) 8 (fun _ => 0x1234#16) :=
  ⟨ready_ready _ _ _, answered_of_answering (by decide)⟩

/-- Answers of an auto-zero of one lane that is done at its `k`th attempt (7 transactions before). -/
def doneAt (k : Nat) (n : Nat) : Word := if n < 6 + k then 0x0000#16 else 0x0004#16

theorem doneAt_first : attemptDone (.lane .l0) (shift (armCount tcfg (.lane .l0)) (doneAt 1)) 0 := by
  unfold attemptDone
  decide

theorem doneAt_last :
    attemptDone (.lane .l0) (shift (armCount tcfg (.lane .l0)) (doneAt 64)) 63 ∧
    ∀ j, j + 1 < 64 → ¬ attemptDone (.lane .l0) (shift (armCount tcfg (.lane .l0)) (doneAt 64)) j := by
  constructor
  · unfold attemptDone
    decide
  · intro j hj h
    have h0 := h 0 (by decide)
    have hn : armCount tcfg (.lane .l0) + (j * width (.lane .l0) + 0) < 6 + 64 := by
      simp only [armCount, width, lanes, targets, List.length_cons, List.length_nil]
      omega
    simp only [shift, doneAt, if_pos hn] at h0
    exact absurd h0 (by decide)

/-- The first attempt, the last one, and none of the 64. -/
theorem witness_AutozeroResult :
    (Ready (.runAutozero (.lane .l0)) 0x1234#16 0xBEEF#16 (ready (.runAutozero (.lane .l0)) 100 (doneAt 1)) ∧
      attemptDone (.lane .l0) (shift (armCount tcfg (.lane .l0)) (doneAt 1)) (1 - 1) ∧
      (∀ j, j + 1 < 1 →
        ¬ attemptDone (.lane .l0) (shift (armCount tcfg (.lane .l0)) (doneAt 1)) j) ∧
      Answered (ready (.runAutozero (.lane .l0)) 100 (doneAt 1))
        (transactions (azEvents tcfg idle.vco (.lane .l0) 1 (doneAt 1))) (doneAt 1)) ∧
    (attemptDone (.lane .l0) (shift (armCount tcfg (.lane .l0)) (doneAt 64)) (64 - 1) ∧
      (∀ j, j + 1 < 64 →
        ¬ attemptDone (.lane .l0) (shift (armCount tcfg (.lane .l0)) (doneAt 64)) j) ∧
      Answered (ready (.runAutozero (.lane .l0)) 100 (doneAt 64))
        (transactions (azEvents tcfg idle.vco (.lane .l0) 64 (doneAt 64))) (doneAt 64)) ∧
    ((∀ j, j < 64 →
        ¬ attemptDone (.lane .l0) (shift (armCount tcfg (.lane .l0)) fun _ => 0x0000#16) j) ∧
      Answered (ready (.runAutozero (.lane .l0)) 100 fun _ => 0x0000#16)
        (transactions (azTimeoutEvents tcfg idle.vco (.lane .l0) fun _ => 0x0000#16))
        fun _ => 0x0000#16) :=
  ⟨⟨ready_ready _ _ _, doneAt_first, fun j hj => absurd hj (by omega),
      answered_of_answering (by decide)⟩,
    ⟨doneAt_last.1, doneAt_last.2, answered_of_answering (by decide)⟩,
    fun _ _ h => absurd (show (0x0000#16).getLsbD 2 = true from h 0 (by decide)) (by decide),
    answered_of_answering (by decide)⟩

/-- The same three runs, with the counts of R205. -/
theorem witness_AutozeroCounts :
    (targets tcfg .rxRst (.lane .l0)).length = 1 ∧ (targets tcfg .rxRst .allLanes).length = 1 ∧
    Ready (.runAutozero (.lane .l0)) 0x1234#16 0xBEEF#16 (ready (.runAutozero (.lane .l0)) 100 (doneAt 64)) ∧
    (attemptDone (.lane .l0) (shift (4 * 1 + 1 + 2 * 1) (doneAt 64)) (64 - 1) ∧
      (∀ j, j + 1 < 64 → ¬ attemptDone (.lane .l0) (shift (4 * 1 + 1 + 2 * 1) (doneAt 64)) j) ∧
      Answered (ready (.runAutozero (.lane .l0)) 100 (doneAt 64))
        ((1 + 1 + 1 + 2 * 1 + 2 * 1) + 64 * 1 + (18 * 1 + 1)) (doneAt 64)) ∧
    ((∀ j, j < 64 →
        ¬ attemptDone (.lane .l0) (shift (4 * 1 + 1 + 2 * 1) fun _ => 0x0000#16) j) ∧
      Answered (ready (.runAutozero (.lane .l0)) 100 fun _ => 0x0000#16)
        ((1 + 1 + 1 + 2 * 1 + 2 * 1) + 64 * 1) fun _ => 0x0000#16) :=
  ⟨by decide, by decide, ready_ready _ _ _,
    ⟨doneAt_last.1, doneAt_last.2, answered_of_answering (by decide)⟩,
    fun _ _ h => absurd (show (0x0000#16).getLsbD 2 = true from h 0 (by decide)) (by decide),
    answered_of_answering (by decide)⟩

/-- A lane that is locked and one that is not, and all lanes. -/
theorem witness_FreqPllResult :
    (Ready (.runFreqPll (.lane .l3)) 0x1234#16 0xBEEF#16
        (ready (.runFreqPll (.lane .l3)) 40 fun _ => 0x0201#16) ∧
      (0x0201#16).getLsbD (lockBit tcfg (.lane .l3)).2 = true ∧
      Answered (ready (.runFreqPll (.lane .l3)) 40 fun _ => 0x0201#16)
        (transactions (acqEvents tcfg (.lane .l3) (fun _ => 0x0201#16)
          ++ lockEvents tcfg (.lane .l3) (fun _ => 0x0201#16))) fun _ => 0x0201#16) ∧
    ((0x0200#16).getLsbD (lockBit tcfg (.lane .l3)).2 = false ∧
      Answered (ready (.runFreqPll (.lane .l3)) 40 fun _ => 0x0200#16)
        (transactions (acqEvents tcfg (.lane .l3) (fun _ => 0x0200#16)
          ++ [.rd (lockBit tcfg (.lane .l3)).1 0x0200#16])) fun _ => 0x0200#16) ∧
    ((0x0201#16).getLsbD (lockBit tcfg .allLanes).2 = true ∧
      Answered (ready (.runFreqPll .allLanes) 40 fun _ => 0x0201#16)
        (transactions (acqEvents tcfg .allLanes (fun _ => 0x0201#16)
          ++ lockEvents tcfg .allLanes (fun _ => 0x0201#16))) fun _ => 0x0201#16) :=
  ⟨⟨ready_ready _ _ _, by decide, answered_of_answering (by decide)⟩,
    ⟨by decide, answered_of_answering (by decide)⟩, by decide, answered_of_answering (by decide)⟩

set_option maxRecDepth 10000 in
/-- Every answer 0xFFFF: lane 2, and all lanes with calibration seen at the first read. -/
theorem witness_RecoverResult (L : LaneId) (h : L = .lane .l2 ∨ L = .allLanes) :
    let f : Nat → Word := fun _ => 0xFFFF#16
    let f1 := shift (raCount L 1) f
    let az := azEvents tcfg idle.vco L 1 f1
    let f2 := shift (transactions az) f1
    let f3 := shift (acqCount L) f2
    let es := raEvents tcfg L 1 f ++ az ++ acqEvents tcfg L f2 ++ lockEvents tcfg L f3
    Ready (.recover L) 0x1234#16 0xBEEF#16 (ready (.recover L) 200 f) ∧
    (f 1).getLsbD tcfg.bRegcal = true ∧
    (∀ j, 1 ≤ j → j < 1 → (f j).getLsbD tcfg.bRegcal = false ∧ tcfg.regcalPollLimit ≠ some j) ∧
    attemptDone L (shift (armCount tcfg L) f1) (1 - 1) ∧
    (∀ j, j + 1 < 1 → ¬ attemptDone L (shift (armCount tcfg L) f1) j) ∧
    (f3 0).getLsbD (lockBit tcfg L).2 = true ∧
    Answered (ready (.recover L) 200 f) (transactions es) f := by
  intro f f1 az f2 f3 es
  refine ⟨ready_ready _ _ _, by decide, fun j _ _ => by omega,
    fun x _ => show (0xFFFF#16).getLsbD 2 = true by decide, fun j hj => by omega, ?_,
    answered_of_answering ?_⟩
  · show (0xFFFF#16).getLsbD _ = true
    rcases h with rfl | rfl <;> decide
  · rcases h with rfl | rfl <;> decide

theorem witness_CommandsRefineReference :
    Ready .regWrite 0x1234#16 0xBEEF#16 (asked .regWrite [.ok 0#16] boundS) ∧
    ∃ t, command 1 .regWrite 0x1234#16 0xBEEF#16 (asked .regWrite [.ok 0#16] boundS) = some t :=
  ⟨ready_asked _ _, _, rfl⟩

/-- TCFG with a poll limit. -/
def confLimit : WfCfg := ⟨{ tcfg with regcalPollLimit := some 1 }, by decide⟩

/-- An AllLanes RECOVER under TCFG with a poll limit. -/
theorem witness_CommandsEnd :
    let s := { asked (.recover .allLanes) [] boundS with conf := confLimit }
    Ready (.recover .allLanes) 0x1234#16 0xBEEF#16 s ∧ (cfgOf s).regcalPollLimit.isSome = true :=
  ⟨⟨rfl, rfl⟩, rfl⟩

theorem witness_RegcalHang :
    Ready (.recover .allLanes) 0x1234#16 0xBEEF#16
      (ready (.recover .allLanes) 9 fun _ => 0x0000#16) ∧
    tcfg.regcalPollLimit = none ∧
    Answered (ready (.recover .allLanes) 9 fun _ => 0x0000#16) (1 + 8) (fun _ => 0x0000#16) ∧
    ∀ k, 1 ≤ k → k ≤ 8 → (0x0000#16).getLsbD tcfg.bRegcal = false :=
  ⟨ready_ready _ _ _, rfl, answered_of_answering (by decide), fun _ _ _ => by decide⟩

theorem witness_TransportErrorEnds :
    let s := running (.recover (.lane .l2)) 4 0#16 .fail
    Running (.recover (.lane .l2)) 0x1234#16 0xBEEF#16
      { proc := .command (.recover (.lane .l2)) 0x1234#16 0xBEEF#16, pos := .run 4, v := 0#16,
        allDone := true } s ∧
    (codeOf tcfg 0x1234#16 0xBEEF#16 (.recover (.lane .l2)))[4]? =
      some (opOf (.write 0x0220#16 0x0418#16)) ∧
    (∀ t back, (opOf (.write 0x0220#16 0x0418#16)).act ≠ .wait t back) ∧ replyAt s 0 = .fail :=
  ⟨running_running _ _ _ _, by decide, by simp [opOf], rfl⟩

theorem witness_CompletionStep :
    Running .probe 0x1234#16 0xBEEF#16
      { proc := .command .probe 0x1234#16 0xBEEF#16, pos := .run 2, v := 0#16, allDone := true }
      (running .probe 2 0#16 (.ok 0#16)) := running_running _ _ _ _

theorem witness_ExecFrame : ∃ t, exec (.recover .allLanes) midRecover = .next t := ⟨_, rfl⟩

theorem witness_ExecStores :
    Running (.assertRxReset (.lane .l0)) 0x1234#16 0xBEEF#16
      { proc := .command (.assertRxReset (.lane .l0)) 0x1234#16 0xBEEF#16, pos := .run 1,
        v := 0xA5A4#16, allDone := true }
      (running (.assertRxReset (.lane .l0)) 1 0xA5A4#16 (.ok 0#16)) ∧
    Ready (.assertRxReset (.lane .l0)) 0x1234#16 0xBEEF#16
      (asked (.assertRxReset (.lane .l0)) [.ok 0#16] boundS) :=
  ⟨running_running _ _ _ _, ready_asked _ _⟩

/-! The Lock Monitor. -/

/-- A tick at the given phase, `rs` the next answers. -/
def ticking (p : TickPhase) (n : Nat) (rs : List Reply) : State :=
  { inside (.tick p) (.run n) 0#16 boundS with
    phy := rs, agenda := [.sequencer .l3], fsm := .resetAsserted
    target := some (.lane .l1), agent := .monitor }

/-- A tick's last recovery over with the outcome `o`. -/
def recoveryDone (o : RecoveryOutcome) : State :=
  { inside (.tick (.recover (.lane .l1) [])) (.returned o) 0#16 boundS with
    agenda := [.sequencer .l3] }

/-- The state after one step. -/
def stepped {α : Type} (f : State → α) (s : State) : Option α :=
  match step s with
  | .next t => some (f t)
  | .fault _ | .refused _ => none

/-- R16, R262: a lock test that fails ends a recovery in its step, and the next one begins. -/
theorem test_recovery_goes_on :
    stepped (fun t => (t.fsm, t.reason, t.trace)) (ticking (.recover (.lane .l1) [.lane .l3]) 46
        [.ok 0x0000#16])
    = some (.failed, some .txPllNotLocked,
        [.began .monitor .recover (some (.lane .l3)),
          .logged .monitor (some (.lane .l1)) .txPllNotLocked,
          .ended .monitor .recover (some (.lane .l1)) .txPllNotLocked,
          .rd 0x0150#16 0x0000#16]) := by decide

theorem witness_CommandWaits :
    let s := ticking .finish 0 []
    s.lock = some .monitor ∧ ∃ inv, s.inv = some inv ∧ ∀ a d, inv.proc ≠ .command .regRead a d :=
  ⟨rfl, _, rfl, by simp⟩

/-- The first moment at which a tick is due, and the last at which it is not. -/
theorem witness_TimerMakesDue :
    let s := { moving .timer boundS with now := 2500000 }
    let u := { moving .timer boundS with now := 2499999 }
    (nextMove s = .timer ∧ s.monArmed = true ∧ s.monDue = false ∧ s.lock ≠ some .monitor ∧
      s.monRef + s.monPeriod ≤ s.now) ∧
    nextMove u = .timer ∧
      ¬ (u.monArmed = true ∧ u.monDue = false ∧ u.lock ≠ some .monitor ∧
        u.monRef + u.monPeriod ≤ u.now) := by decide

/-- All four lanes locked, and none. -/
theorem witness_TickSamples (v : Word) (h : v = 0xFFFF#16 ∨ v = 0x0000#16) :
    let s := answering 4 (fun _ => v) { tickDue with
      agenda := [.sequencer .l0, .sequencer .l1, .sequencer .l2, .sequencer .l3, .sequencer .l0,
        .timer] }
    s.lock = none ∧ s.monDue = true ∧ Answered s 4 (fun _ => v) ∧ s.grants = .monitor :: [] ∧
    s.agenda = .sequencer .l0 :: .sequencer .l1 :: .sequencer .l2 :: .sequencer .l3
      :: .sequencer .l0 :: [.timer] ∧
    (v.getLsbD tcfg.bLock = true ∨ v.getLsbD tcfg.bLock = false) :=
  ⟨rfl, rfl, answered_of_answering (by decide), rfl, rfl, by rcases h with rfl | rfl <;> decide⟩

theorem witness_RecoverySelection : LaneId.lane .l3 ∈ [LaneId.lane .l1, .lane .l3] ∧
    [LaneId.allLanes] ≠ [] := by decide

/-- The final step with nothing left; the final step with a recovery over; a first transaction. -/
theorem witness_TickChooses :
    ((ticking .finish 0 []).lock = some .monitor ∧
      (ticking .finish 0 []).inv.map Invocation.proc = some (.tick .finish) ∧
      nextMove (ticking .finish 0 []) = .sequencer .l3) ∧
    ((recoveryDone .txPllNotLocked).lock = some .monitor ∧
      (recoveryDone .txPllNotLocked).inv.map Invocation.proc
        = some (.tick (.recover (.lane .l1) [])) ∧
      endOf (recoverCode tcfg (.lane .l1) .monitor) (.returned .txPllNotLocked)
        = some .txPllNotLocked ∧ nextMove (recoveryDone .txPllNotLocked) = .sequencer .l3) ∧
    ((ticking (.recover (.lane .l1) []) 0 [.ok 0#16]).inv.map Invocation.pos = some (.run 0) ∧
      replyAt (ticking (.recover (.lane .l1) []) 0 [.ok 0#16]) 0 = .ok 0#16) :=
  ⟨⟨rfl, rfl, rfl⟩, ⟨rfl, rfl, rfl, rfl⟩, rfl, rfl⟩

/-- The first sampling read, in the step of the grant, and the third one. -/
theorem witness_SamplingFailure :
    (let s := { tickDue with phy := [.fail] }
     s.lock = none ∧ nextMove s = .sequencer .l0 ∧
      grantChoice (takeTurn s) = some (.monitor, []) ∧ replyAt s 0 = .fail) ∧
    let s := ticking (.sample [true, false]) 0 [.fail]
    s.lock = some .monitor ∧ (∃ inv, s.inv = some inv ∧ inv.proc = .tick (.sample [true, false])) ∧
    nextMove s = .sequencer .l3 ∧ replyAt s 0 = .fail :=
  ⟨⟨rfl, rfl, by decide, rfl⟩, rfl, ⟨_, rfl, rfl⟩, rfl, rfl⟩

/-- A failed write with a recovery left, and a failed first transaction with none left. -/
theorem witness_MonitorRecoveryFails :
    (let s := ticking (.recover (.lane .l1) [.lane .l3]) 1 [.fail]
     s.lock = some .monitor ∧
     (∃ inv, s.inv = some inv ∧ inv.proc = .tick (.recover (.lane .l1) [.lane .l3]) ∧
      inv.pos = .run 1) ∧
     (recoverCode tcfg (.lane .l1) .monitor)[1]? =
      some (opOf (.writeBack 0x0170#16 (.setBits 0x0001#16))) ∧
     (∀ t back, (opOf (.writeBack 0x0170#16 (.setBits 0x0001#16))).act ≠ .wait t back) ∧
     nextMove s = .sequencer .l3 ∧ replyAt s 0 = .fail) ∧
    (recoverCode tcfg (.lane .l1) .monitor)[0]? =
      some { pre := .recoverStart (.lane .l1) .monitor, act := .read 0x0170#16 .keep } ∧
    (ticking (.recover (.lane .l1) []) 0 [.fail]).inv.map Invocation.pos = some (.run 0) :=
  ⟨⟨rfl, ⟨_, rfl, rfl, rfl⟩, by decide, by simp [opOf], rfl, rfl⟩, by decide, rfl⟩

theorem witness_TeardownQuiet :
    (Inv detaching ∧ Ready .detach 0x1234#16 0xBEEF#16 detaching ∧
      ∃ t, exec .detach detaching = .next t) ∧
    (Inv detached ∧ Quiet detached ∧ nextMove (moving (.elapse 5) detached) = .elapse 5 ∧
      (∃ t, step (moving (.elapse 5) detached) = .next t ∧ t.bound = false) ∧
      ∀ a b, nextMove detached ≠ .reset a b) :=
  ⟨⟨inv_detaching, ⟨rfl, rfl⟩, _, rfl⟩, inv_detached, by constructor <;> decide, rfl,
    ⟨_, rfl, by decide⟩, by decide⟩

/-! The interrupt retry. -/

/-- Lane 2's burst, with `n` attempts made. -/
def bursting (n : Nat) (rs : List Reply) : State :=
  { irqS with
    irq2 := { level := false, active := true, pending := true, attempts := n, lastOk := false }
    phy := rs
    grants := [.irq2]
    agenda := [.sequencer .l0] }

/-- Lane 2's attempt at the position `x`. -/
def attempting (n : Nat) (x : Position) (rs : List Reply) : State :=
  { bursting n rs with
    lock := some .irq2
    inv := some { proc := .irqRetry .l2, pos := x, v := 0#16, allDone := false } }

/-- R16, R300: the Log event of a failed attempt stands in the step of the lock test. -/
theorem test_attempt_logs : stepped (fun t => (t.trace, t.inv.map Invocation.pos))
    (attempting 1 (.run 15) [.ok 0x0000#16])
    = some ([.logged .irq2 (some (.lane .l2)) .txPllNotLocked, .rd 0x0250#16 0x0000#16],
        some (.returned .txPllNotLocked)) := by decide

/-- Variant 1; no edge; the edge that starts a burst; the edge during one. -/
theorem witness_FallingEdge :
    (nextMove (moving (.irqSample .l2 false) boundS) = .irqSample .l2 false ∧
      (cfgOf boundS).hasIrqRetry = false) ∧
    ((cfgOf irqS).hasIrqRetry = true ∧ ¬ (irqS.irq2.level = true ∧ true = false)) ∧
    ((irqGet irqS .l2).level = true ∧ irqS.bound = true ∧ detachAccepted irqS = false ∧
      (irqGet irqS .l2).active = false) ∧
    (irqGet { bursting 1 [] with irq2 := { (bursting 1 []).irq2 with level := true } } .l2).active
      = true := by decide

/-- An unbound block; a first write that completes; one that fails. -/
theorem witness_AttemptBegins :
    ((bursting 7 []).lock = none ∧ nextMove (bursting 7 []) = .sequencer .l0 ∧
      grantChoice (takeTurn (bursting 7 [])) = some (irqAgent .l2, [])) ∧
    ({ bursting 0 [] with bound := false } : State).bound = false ∧
    ((bursting 7 [.ok 0#16]).bound = true ∧ detachAccepted (bursting 7 [.ok 0#16]) = false ∧
      replyAt (bursting 7 [.ok 0#16]) 0 = .ok 0#16) ∧
    replyAt (bursting 7 [.fail]) 0 = .fail := by decide

/-- The end of the procedure; a failed transaction; a failure with an attempt left, before and after
its delay, and with a delay of 0; the eighth failure. -/
theorem witness_AttemptEnds :
    ((attempting 8 (.run 24) []).lock = some (irqAgent .l2) ∧
      nextMove (attempting 8 (.run 24) []) = .sequencer .l0 ∧
      (fpCode confIrq.cfg (.lane .l2))[24]? = none) ∧
    ((fpCode confIrq.cfg (.lane .l2))[15]? = some (opOf (.read 0x0250#16 (.lockTest 0))) ∧
      replyAt (attempting 1 (.run 15) [.fail]) 0 = .fail) ∧
    ((irqGet (attempting 7 (.returned .txPllNotLocked) []) .l2).attempts < 8 ∧
      confIrq.cfg.tIrqRetry ≠ 0) ∧
    (irqGet (attempting 7 (.retried .txPllNotLocked) []) .l2).attempts < 8 ∧
    ({ confIrq.cfg with tIrqRetry := 0 } : Cfg).wellFormed = true ∧
    (irqGet (attempting 8 (.returned .txPllNotLocked) []) .l2).attempts = 8 := by decide

/-- Nothing pending; and each requester drawn. -/
theorem witness_AnyRequesterGranted :
    ((moving (.sequencer .l0) idle).lock = none ∧
      ∀ ag, requests (moving (.sequencer .l0) idle) ag = false) ∧
    ((asked .regRead [] boundS).lock = none ∧
      nextMove (asked .regRead [] boundS) = .sequencer .l0 ∧
      requests (asked .regRead [] boundS) .host = true ∧
      (asked .regRead [] boundS).grants = .host :: [] ∧
      grantedAt (asked .regRead [] boundS) = some .host) ∧
    (tickDue.lock = none ∧ nextMove tickDue = .sequencer .l0 ∧ grantedAt tickDue = some .monitor) ∧
    ((bursting 0 []).lock = none ∧ nextMove (bursting 0 []) = .sequencer .l0 ∧
      grantedAt (bursting 0 []) = some (irqAgent .l2) ∧ (bursting 0 []).bound = true ∧
      detachAccepted (bursting 0 []) = false) :=
  ⟨⟨rfl, fun ag => by cases ag <;> rfl⟩, by decide, by decide, by decide⟩

/-- A recovery, and an attempt, whose first transaction fails. -/
theorem witness_InvocationsRefineReference :
    (let s := ticking (.recover (.lane .l1) [.lane .l3]) 0 [.fail]
     s.lock = some .monitor ∧
     (∃ inv, s.inv = some inv ∧ inv.proc = .tick (.recover (.lane .l1) [.lane .l3]) ∧
      inv.pos = .run 0) ∧
     ∃ t, Reference.recover 1 (cfgOf s) (.lane .l1) .monitor s
      = some (.error .transportError, t)) ∧
    (let s := bursting 7 [.fail]
     s.lock = none ∧ grantChoice s = some (irqAgent .l2, []) ∧ s.bound = true ∧
     detachAccepted s = false ∧ (irqGet s .l2).attempts < 8 ∧
     ∃ t, freqPll (cfgOf s) (.lane .l2)
      (irqSet .l2 { irqGet s .l2 with attempts := (irqGet s .l2).attempts + 1 }
        { s with
          trace := .began .irq2 .irqRetry (some (.lane .l2)) :: s.trace
          grants := [] }) = some (.error .transportError, t)) :=
  ⟨⟨rfl, ⟨_, rfl, rfl, rfl⟩, _, rfl⟩, rfl, by decide, rfl, by decide, by decide, _, rfl⟩

end Sys2Proof.Tests
end

section
/-! The scope's statements (spec/00_scope): the bracketed trace, the lane addresses, the check of a
configuration, and which command a step runs. -/

namespace Sys2Proof.Machine

/-! ## Moves of the sequencer -/

/-- A step whose move is the sequencer's is that move, after it is taken (R16, R343). -/
theorem step_of_sequencer {s : State} {next : Lane} (h : nextMove s = .sequencer next) :
    step s = sequencerMove exec next (takeTurn s) := by
  unfold step
  rw [h]
  rfl

/-- A free sequencer grants (R343). -/
theorem sequencerMove_free {run : Instr → State → Host.Outcome State Fault Refusal} {next : Lane}
    {s : State} (h : s.lock = none) : sequencerMove run next s = grant run next s := by
  simp only [sequencerMove, h]

/-- A held sequencer goes on with the invocation that holds it (R16). -/
theorem sequencerMove_held {run : Instr → State → Host.Outcome State Fault Refusal} {next : Lane}
    {s : State} {ag : Agent} (h : s.lock = some ag) :
    sequencerMove run next s = resume run next s := by
  simp only [sequencerMove, h]

/-! ## The sequencer and the trace inside a step -/

/-- The fields that `TraceInv` speaks of are as they were. -/
structure SameTrace (s t : State) : Prop where
  lock : t.lock = s.lock
  inv : t.inv = s.inv
  trace : t.trace = s.trace
  transportFault : t.transportFault = s.transportFault

/-- `TraceInv` within a step of an invocation of `ag`, where `st.inv` is not yet written back. -/
structure HeldBy (ag : Agent) (s : State) : Prop where
  lock_eq : s.lock = some ag
  open_eq : openOf s.trace = some ag
  trace_ok : traceOk s.trace = true
  fault_eq : s.transportFault = s.trace.any isFailure

theorem TraceInv.of_same {s t : State} (h : TraceInv s) (e : SameTrace s t) : TraceInv t where
  lock_eq := by rw [e.lock, e.inv, h.lock_eq]
  open_eq := by rw [e.lock, e.trace, h.open_eq]
  trace_ok := by rw [e.trace, h.trace_ok]
  fault_eq := by rw [e.transportFault, e.trace, h.fault_eq]

theorem HeldBy.of_same {ag : Agent} {s t : State} (h : HeldBy ag s) (e : SameTrace s t) :
    HeldBy ag t where
  lock_eq := by rw [e.lock, h.lock_eq]
  open_eq := by rw [e.trace, h.open_eq]
  trace_ok := by rw [e.trace, h.trace_ok]
  fault_eq := by rw [e.transportFault, e.trace, h.fault_eq]

/-- The running invocation's agent holds the sequencer. -/
theorem TraceInv.held {s : State} {inv : Invocation} (h : TraceInv s) (hi : s.inv = some inv) :
    HeldBy (procAgent inv.proc) s := by
  have hlock : s.lock = some (procAgent inv.proc) := by rw [h.lock_eq, hi, Option.map_some]
  exact ⟨hlock, h.open_eq.trans hlock, h.trace_ok, h.fault_eq⟩

/-- With the position written back, the step is over. -/
theorem HeldBy.withInv {ag : Agent} {inv : Invocation} {s : State} (h : HeldBy ag s)
    (hp : procAgent inv.proc = ag) : TraceInv (withInv inv s) where
  lock_eq := by simp [h.lock_eq, hp]
  open_eq := h.open_eq.trans h.lock_eq.symm
  trace_ok := h.trace_ok
  fault_eq := h.fault_eq

/-! ## Events -/

/-- An event that is no failure and leaves the same invocation open. -/
theorem HeldBy.record {ag : Agent} {e : Event} {s : State} (h : HeldBy ag s)
    (ho : openOf (e :: s.trace) = some ag) (hok : traceOk (e :: s.trace) = true)
    (hf : isFailure e = false) : HeldBy ag (record e s) where
  lock_eq := h.lock_eq
  open_eq := ho
  trace_ok := hok
  fault_eq := by simp [h.fault_eq, hf]

/-- A transaction or a Wait opens and closes nothing, and may stand wherever an invocation is
open. -/
theorem trace_primitive {e : Event} (es : List Event)
    (he : isTransaction e = true ∨ ∃ t, e = .wait t) :
    openOf (e :: es) = openOf es ∧ traceOk (e :: es) = (traceOk es && (openOf es).isSome) := by
  rcases he with he | ⟨t, rfl⟩
  · cases e with
    | rd _ _ | rdFail _ | wr _ _ | wrFail _ _ => exact ⟨rfl, rfl⟩
    | _ => cases he
  · exact ⟨rfl, rfl⟩

/-- Such an event after the trace of an invocation of `ag`. -/
theorem HeldBy.trace_primitive {ag : Agent} {e : Event} {s : State} (h : HeldBy ag s)
    (he : isTransaction e = true ∨ ∃ t, e = .wait t) :
    openOf (e :: s.trace) = some ag ∧ traceOk (e :: s.trace) = true := by
  obtain ⟨hopen, hok⟩ := Machine.trace_primitive s.trace he
  exact ⟨hopen.trans h.open_eq, by rw [hok, h.trace_ok, h.open_eq]; rfl⟩

/-- A completed transaction or a Wait of the invocation that runs. -/
theorem HeldBy.primitive {ag : Agent} {e : Event} {s : State} (h : HeldBy ag s)
    (he : isTransaction e = true ∨ ∃ t, e = .wait t) (hf : isFailure e = false) :
    HeldBy ag (Machine.record e s) :=
  h.record (h.trace_primitive he).1 (h.trace_primitive he).2 hf

/-- A failed transaction of the invocation that runs sets the sticky fault (R60, R333). -/
theorem HeldBy.failure {ag : Agent} {e : Event} {s : State} (h : HeldBy ag s)
    (he : isTransaction e = true) (hf : isFailure e = true) :
    HeldBy ag (setTransportFault (Machine.record e s)) where
  lock_eq := h.lock_eq
  open_eq := (h.trace_primitive (.inl he)).1
  trace_ok := (h.trace_primitive (.inl he)).2
  fault_eq := by simp [hf]

/-- A Log event of the invocation that runs. -/
theorem HeldBy.logged {ag who : Agent} {L : Option LaneId} {o : RecoveryOutcome} {s : State}
    (h : HeldBy ag s) : HeldBy ag (Machine.record (.logged who L o) s) :=
  h.record h.open_eq (by simp [traceOk, h.trace_ok, h.open_eq]) rfl

/-- The Begin event of a recovery inside a tick opens nothing (R262). -/
theorem HeldBy.recovery_began {L : Option LaneId} {s : State} (h : HeldBy .monitor s) :
    HeldBy .monitor (Machine.record (.began .monitor .recover L) s) :=
  h.record (by simp [openOf, nested, h.open_eq])
    (by simp [traceOk, nested, h.trace_ok, h.open_eq]) rfl

/-- The End event of a recovery inside a tick closes nothing (R262). -/
theorem HeldBy.recovery_ended {L : Option LaneId} {o : RecoveryOutcome} {s : State}
    (h : HeldBy .monitor s) : HeldBy .monitor (Machine.record (.ended .monitor .recover L o) s) :=
  h.record (by simp [openOf, nested, h.open_eq])
    (by simp [traceOk, h.trace_ok, h.open_eq]) rfl

/-- The Begin event of an invocation, with the lock taken from a free sequencer. -/
theorem TraceInv.began {ag : Agent} {k : Kind} {L : Option LaneId} {s t : State} (h : TraceInv s)
    (hfree : s.lock = none) (hn : nested ag k = false) (hlock : t.lock = some ag)
    (htrace : t.trace = .began ag k L :: s.trace)
    (hfault : t.transportFault = s.transportFault) : HeldBy ag t := by
  have hopen : openOf s.trace = none := h.open_eq.trans hfree
  exact
    { lock_eq := hlock
      open_eq := by simp [htrace, openOf, hn]
      trace_ok := by simp [htrace, traceOk, hn, hopen, h.trace_ok]
      fault_eq := by simp [htrace, hfault, h.fault_eq, isFailure] }

/-- The End event of an invocation, with the sequencer freed (R338). -/
theorem HeldBy.ended {ag : Agent} {k : Kind} {L : Option LaneId} {o : RecoveryOutcome} {s : State}
    (h : HeldBy ag s) (hn : nested ag k = false) :
    TraceInv (release (Machine.record (.ended ag k L o) s)) where
  lock_eq := rfl
  open_eq := by simp [openOf, hn]
  trace_ok := by simp [traceOk, h.trace_ok, h.open_eq]
  fault_eq := by simp [h.fault_eq, isFailure]

/-! ## One primitive -/

/-- A primitive of the invocation that runs: what its continuation and its failure are given is a
state in which that invocation still holds the sequencer. -/
theorem HeldBy.perform {P : State → Prop} {ag : Agent} {op : MicroOp} {n : Nat} {inv : Invocation}
    {go : Continuation} {fail : State → State} {s : State} (h : HeldBy ag s)
    (hgo : ∀ p inv' u, inv'.proc = inv.proc → HeldBy ag u → P (go p inv' u))
    (hfail : ∀ u, HeldBy ag (setTransportFault u) → P (fail u)) :
    P (perform op n inv go fail s) := by
  rcases perform_shape op n inv go fail s with
    ⟨e, p, inv', u, heq, hproc, htr, hf, he, -, hkept, hinv, -⟩ | ⟨e, heq, hf, he⟩
  · rw [heq]
    exact hgo p inv' u hproc
      ((h.primitive he hf).of_same ⟨hkept.lock, hinv, htr, hkept.transportFault⟩)
  · rw [heq]
    have hpre : SameTrace s (drawReply (applyPre op.pre s)) := by
      cases op.pre <;> constructor <;> rfl
    exact hfail _ ((h.of_same hpre).failure he hf)

/-! ## Host commands -/

/-- The final updates of a command leave the sequencer and the trace alone. -/
theorem finalOf_same (i : Instr) (o : RecoveryOutcome) (s : State) : SameTrace s (finalOf i o s) := by
  have hattach : SameTrace s (attach s) := by
    unfold attach
    dsimp only
    split <;> constructor <;> rfl
  cases i with
  | probe =>
    show SameTrace s (if o = .success then attach s else s)
    split
    · exact hattach
    · constructor <;> rfl
  | recover L =>
    show SameTrace s (recoverEnd o s)
    unfold recoverEnd
    split <;> constructor <;> rfl
  | _ => constructor <;> rfl

/-- `finish o` of a host command closes its invocation. -/
theorem HeldBy.finishHost {i : Instr} {o : RecoveryOutcome} {s : State} (h : HeldBy .host s) :
    TraceInv (finishHost i o (finalOf i o s)) :=
  ((h.of_same (finalOf_same i o s)).of_same (by constructor <;> rfl)).ended (by simp [nested])

/-- Every step of a host command keeps the trace. -/
theorem HeldBy.hostAdvance {i : Instr} {code : Cfg → Word → Word → List MicroOp} {a d : Word}
    {inv : Invocation} {s : State} (h : HeldBy .host s) (hp : procAgent inv.proc = .host) :
    TraceInv (hostAdvance i code (finalOf i) a d inv s) := by
  unfold Machine.hostAdvance
  split
  next n =>
    split
    · exact h.finishHost
    · exact h.perform (fun _ _ _ hproc hu => hu.withInv (by rw [← hp, ← hproc]))
        fun _ hu => hu.finishHost
  · exact h.finishHost
  · exact h.finishHost

/-! ## Monitor ticks -/

/-- The tick's last step closes it. -/
theorem HeldBy.endTick {o : RecoveryOutcome} {s : State} (h : HeldBy .monitor s) :
    TraceInv (endTick o s) :=
  (h.of_same (t := { s with monRef := s.now }) (by constructor <;> rfl)).ended rfl

/-- The draw of the next recovery, or of none. -/
theorem HeldBy.chooseNext {next : Lane} {left : List LaneId} {inv : Invocation} {s : State}
    (h : HeldBy .monitor s) : TraceInv (chooseNext next left inv s) := by
  unfold Machine.chooseNext
  split
  · exact h.withInv rfl
  · exact h.recovery_began.withInv rfl

/-- A recovery inside the tick returns. -/
theorem HeldBy.recoveryReturned {o : RecoveryOutcome} {L : LaneId} {s : State}
    (h : HeldBy .monitor s) : HeldBy .monitor (recoveryReturned o L s) := by
  have hend : HeldBy .monitor (recoverEnd o s) := h.of_same (finalOf_same (.recover L) o s)
  unfold Machine.recoveryReturned
  dsimp only
  split
  · exact hend.recovery_ended
  · exact hend.recovery_ended.logged

/-- After a recovery the tick goes on, or ends. -/
theorem HeldBy.recoveryOver {next : Lane} {L : LaneId} {left : List LaneId} {o : RecoveryOutcome}
    {inv : Invocation} {s : State} (h : HeldBy .monitor s) :
    TraceInv (recoveryOver next L left o inv s) := by
  unfold Machine.recoveryOver
  split
  · exact h.recoveryReturned.endTick
  · exact h.recoveryReturned.chooseNext

/-- One step of a recovery inside the tick. -/
theorem HeldBy.recoveryStep {next : Lane} {L : LaneId} {left : List LaneId} {inv : Invocation}
    {s : State} (h : HeldBy .monitor s) (hp : procAgent inv.proc = .monitor) :
    TraceInv (recoveryStep next L left inv s) := by
  unfold Machine.recoveryStep
  dsimp only
  split
  next n =>
    split
    · exact h.recoveryOver
    · refine h.perform (fun p inv' u hproc hu => ?_) fun u hu => hu.recoveryReturned.chooseNext
      have hgo : TraceInv (goTo p inv' u) := hu.withInv (by rw [← hp, ← hproc])
      unfold recoveryGoes
      split
      · exact hgo
      · split
        · exact hgo
        · exact hu.recoveryOver
  · exact h.recoveryOver
  · exact h.recoveryOver

/-- One sampling read of the tick. -/
theorem HeldBy.sampleStep {next : Lane} {taken : List Bool} {inv : Invocation} {s : State}
    (h : HeldBy .monitor s) : TraceInv (sampleStep next taken inv s) := by
  have hdraw : HeldBy .monitor (drawReply s) := h.of_same (by constructor <;> rfl)
  unfold Machine.sampleStep
  cases hr : nextReply s with
  | ok v =>
    rw [memRead_ok hr]
    have hread := hdraw.primitive
      (e := .rd (addrOf (txpllStat (cfgOf s)) (sampleLane taken.length)) v) (.inl rfl) rfl
    dsimp only
    unfold sampleTaken
    split
    · exact (hread.of_same (by constructor <;> rfl)).chooseNext
    · exact hread.withInv rfl
  | fail =>
    rw [memRead_fail hr]
    exact (hdraw.failure (e := .rdFail _) rfl rfl).logged.endTick

/-- Every step of a tick keeps the trace. -/
theorem HeldBy.tickStep {next : Lane} {phase : TickPhase} {inv : Invocation} {s : State}
    (h : HeldBy .monitor s) (hp : procAgent inv.proc = .monitor) :
    TraceInv (tickStep next phase inv s) := by
  cases phase with
  | sample taken => exact h.sampleStep
  | recover L left => exact h.recoveryStep hp
  | finish => exact h.endTick

/-! ## Interrupt attempts -/

theorem irqSet_same (l : IrqLane) (x : IrqLine) (s : State) : SameTrace s (irqSet l x s) :=
  ⟨irqSet_lock l x s, irqSet_inv l x s, irqSet_trace l x s, irqSet_transportFault l x s⟩

theorem TraceInv.endBurst {l : IrqLane} {ok : Bool} {s : State} (h : TraceInv s) :
    TraceInv (endBurst l ok s) :=
  h.of_same (irqSet_same l _ s)

/-- The attempt's last step closes it. -/
theorem HeldBy.endAttempt {l : IrqLane} {o : RecoveryOutcome} {s : State}
    (h : HeldBy (irqAgent l) s) : TraceInv (endAttempt l o s) := by
  have hend : TraceInv (release
      (Machine.record (.ended (irqAgent l) .irqRetry (some (.lane (irqLaneOf l))) o) s)) :=
    h.ended (by simp [nested])
  unfold Machine.endAttempt
  dsimp only
  split
  · exact hend.endBurst
  · split
    · exact hend.endBurst
    · exact hend

/-- Where an attempt goes after a primitive. -/
theorem HeldBy.attemptGoes {l : IrqLane} {p : Position} {inv : Invocation} {s : State}
    (h : HeldBy (irqAgent l) s) (hp : procAgent inv.proc = irqAgent l) :
    TraceInv (attemptGoes l p inv s) := by
  cases p with
  | returned o => exact h.logged.withInv hp
  | run n => exact h.withInv hp
  | retried o => exact h.withInv hp

/-- Every step of an attempt keeps the trace. -/
theorem HeldBy.attemptStep {l : IrqLane} {inv : Invocation} {s : State}
    (h : HeldBy (irqAgent l) s) (hp : procAgent inv.proc = irqAgent l) :
    TraceInv (attemptStep l inv s) := by
  unfold Machine.attemptStep
  split
  next n =>
    split
    · exact h.endAttempt
    · exact h.perform (fun _ _ _ hproc hu => hu.attemptGoes (by rw [← hp, ← hproc]))
        fun _ hu => hu.attemptGoes hp
  next o =>
    unfold attemptReturned
    split
    · exact ((h.of_same (by constructor <;> rfl)).primitive (.inr ⟨_, rfl⟩) rfl).withInv hp
    · exact h.endAttempt
  · exact h.endAttempt

/-- A grant to an interrupt retry keeps the trace. -/
theorem TraceInv.grantIrq {l : IrqLane} {s : State} (h : TraceInv s) (hfree : s.lock = none) :
    TraceInv (grantIrq l s) := by
  unfold Machine.grantIrq
  split
  · exact h.endBurst
  · have hbegan : HeldBy (irqAgent l) (beginAttempt l s) :=
      h.began (k := .irqRetry) (L := some (.lane (irqLaneOf l))) hfree (by simp [nested])
        (by simp [beginAttempt]) (by simp [beginAttempt]) (by simp [beginAttempt])
    have hinv : (beginAttempt l s).inv =
        some { proc := .irqRetry l, pos := .run 0, v := 0#16, allDone := false } := by
      simp [beginAttempt]
    dsimp only
    rw [hinv]
    exact hbegan.attemptStep rfl

/-! ## The sequencer -/

/-- A grant keeps the trace, whomever it goes to. -/
theorem grantTo_keeps_traceInv {who : Agent} {next : Lane} {s t : State} (h : TraceInv s)
    (hfree : s.lock = none) (ht : grantTo exec who next s = .next t) : TraceInv t := by
  cases who with
  | host =>
    simp only [grantTo] at ht
    split at ht
    next c hc =>
      rw [exec_ready (a := c.addr) (d := c.data) ⟨hfree, hc⟩] at ht
      cases ht
      have hbegan : HeldBy .host (beginHost c.cmd s) :=
        h.began (k := kindOf c.cmd) (L := laneOperand c.cmd) hfree (by simp [nested]) rfl rfl rfl
      exact hbegan.hostAdvance rfl
    next => cases ht; exact h
  | monitor =>
    cases ht
    have hbegan : HeldBy .monitor (beginTick s) :=
      h.began (k := .tick) (L := none) hfree rfl rfl rfl rfl
    exact hbegan.tickStep rfl
  | irq2 => cases ht; exact h.grantIrq hfree
  | irq3 => cases ht; exact h.grantIrq hfree

/-- A step of the running invocation keeps the trace. -/
theorem resume_keeps_traceInv {next : Lane} {s t : State} (h : TraceInv s)
    (ht : resume exec next s = .next t) : TraceInv t := by
  unfold resume at ht
  split at ht
  next => cases ht; exact h
  next inv hi =>
    have hheld := h.held hi
    split at ht
    next c a d hp =>
      rw [hp] at hheld
      rw [exec_running ⟨hheld.lock_eq, hi, hp⟩] at ht
      cases ht
      exact hheld.hostAdvance (by rw [hp]; rfl)
    next phase hp =>
      rw [hp] at hheld
      cases ht
      exact hheld.tickStep (by rw [hp]; rfl)
    next l hp =>
      rw [hp] at hheld
      cases ht
      exact hheld.attemptStep (by rw [hp]; rfl)

/-- Every move of the sequencer keeps the trace. -/
theorem sequencerMove_keeps_traceInv {next : Lane} {s t : State} (h : TraceInv s)
    (ht : sequencerMove exec next s = .next t) : TraceInv t := by
  cases hl : s.lock with
  | some ag =>
    rw [sequencerMove_held hl] at ht
    exact resume_keeps_traceInv h ht
  | none =>
    rw [sequencerMove_free hl, grant] at ht
    split at ht
    · cases ht; exact h
    next who rest _ =>
      have hdrawn : TraceInv { s with grants := rest } := h.of_same (by constructor <;> rfl)
      exact grantTo_keeps_traceInv hdrawn hl ht

/-! ## The other agents -/

/-- A host access may stand anywhere in the trace. -/
theorem TraceInv.hostWr {off : BitVec 4} {v : Word} {s : State} (h : TraceInv s) :
    TraceInv (record (.hostWr off v) s) :=
  ⟨h.lock_eq, h.open_eq, h.trace_ok, by simp [h.fault_eq, isFailure]⟩

theorem TraceInv.hostRead {off : BitVec 4} {s : State} (h : TraceInv s) :
    TraceInv (hostRead off s) :=
  ⟨h.lock_eq, h.open_eq, h.trace_ok, by simp [Machine.hostRead, h.fault_eq, isFailure]⟩

/-- A host write to CMD starts nothing: it only leaves a request or a refusal (R140). -/
theorem cmdWrite_same (w : Word) (s : State) : SameTrace s (cmdWrite w s) := by
  have haccept (c : Instr) : SameTrace s (accept w c (clearRequest s)) := by
    unfold accept
    dsimp only
    split <;> constructor <;> rfl
  unfold cmdWrite
  split
  · constructor <;> rfl
  · split
    · constructor <;> rfl
    next c _ =>
      unfold request
      split
      · constructor <;> rfl
      · split
        · constructor <;> rfl
        · exact haccept c

theorem hostEffect_same (off : BitVec 4) (v : Word) (s : State) :
    SameTrace s (hostEffect off v s) := by
  unfold hostEffect
  split
  · exact cmdWrite_same v s
  · split
    · constructor <;> rfl
    · split <;> constructor <;> rfl

theorem TraceInv.hostWrite {off : BitVec 4} {v : Word} {s : State} (h : TraceInv s) :
    TraceInv (hostWrite off v s) :=
  h.hostWr.of_same (hostEffect_same off v _)

theorem TraceInv.hostProgramStep {s : State} (h : TraceInv s) : TraceInv (hostProgramStep s) := by
  have hprog (rest : List HostPrim) : TraceInv { s with hostProg := rest } :=
    h.of_same (by constructor <;> rfl)
  unfold Machine.hostProgramStep
  split
  · exact h
  · exact (hprog _).hostWrite
  · exact (hprog _).hostRead
  · split
    · exact (hprog _).hostRead
    · exact h.hostRead

theorem timerStep_same (s : State) : SameTrace s (timerStep s) := by
  unfold timerStep
  split <;> constructor <;> rfl

theorem irqSample_same (l : IrqLane) (level : Bool) (s : State) :
    SameTrace s (irqSample l level s) := by
  unfold irqSample
  split
  · dsimp only
    split <;> exact irqSet_same l _ s
  · constructor <;> rfl

/-- The move of each agent keeps the trace (R30). -/
theorem takeMove_keeps_traceInv {m : Move} {s t : State} (h : TraceInv s)
    (ht : takeMove exec m s = .next t) : TraceInv t := by
  cases m with
  | sequencer next => exact sequencerMove_keeps_traceInv h ht
  | hostWrite off v => cases ht; exact h.hostWrite
  | hostRead off => cases ht; exact h.hostRead
  | hostProgram => cases ht; exact h.hostProgramStep
  | timer => cases ht; exact h.of_same (timerStep_same s)
  | irqSample l level => cases ht; exact h.of_same (irqSample_same l level s)
  | elapse us => cases ht; exact h.of_same (by constructor <;> rfl)
  | reset level2 level3 => cases ht; constructor <;> rfl

/-- Settles O12: the agent whose move it is keeps the invariant, the sequencer by way of `HeldBy`,
which every primitive and every event of the running invocation keeps. -/
theorem stepKeepsTrace : Obligations.StepKeepsTrace := by
  intro s t h ht
  exact takeMove_keeps_traceInv (h.of_same (t := takeTurn s) (by constructor <;> rfl)) ht

/-! ## Lane addresses -/

/-- No lane address wraps where the lane 3 address does not (R8(a)). -/
theorem laneAddr_toNat {base : Word} (h : base.toNat + 3 * 0x100 ≤ 0xFFFF) (l : Lane) :
    (laneAddr base l).toNat = base.toNat + idx l * 0x100 := by
  cases l <;> simp [laneAddr, idx, Config.laneStride, BitVec.toNat_add] <;> omega

/-- The lane index stands in bits 9:8 of a lane address's offset from its base (R149). -/
theorem laneAddr_sub_base (base : Word) (l : Lane) :
    (laneAddr base l - base).extractLsb' 8 2 = BitVec.ofNat 2 (idx l) := by
  have hoff : laneAddr base l - base = BitVec.ofNat 16 (idx l) * Config.laneStride := by
    rw [laneAddr, BitVec.add_comm, BitVec.add_sub_cancel]
  rw [hoff]
  cases l <;> decide

/-- The four addresses that the check of a base goes through are its lane addresses. -/
theorem mem_laneAddrs {base a : Word} : a ∈ laneAddrs base ↔ ∃ l, a = laneAddr base l := by
  have heq : laneAddrs base = [Lane.l0, .l1, .l2, .l3].map (laneAddr base) := by
    simp [laneAddrs, laneAddr, idx, Config.laneStride]
  rw [heq, List.mem_map]
  constructor
  · rintro ⟨l, -, rfl⟩
    exact ⟨l, rfl⟩
  · rintro ⟨l, rfl⟩
    exact ⟨l, by cases l <;> simp, rfl⟩

/-! ## The checks of a configuration (R8) -/

theorem notIdAddr_iff {a : Word} : notIdAddr a = true ↔ a ≠ 0x0002#16 ∧ a ≠ 0x0003#16 :=
  decide_eq_true_iff

theorem laneBaseOk_iff {b : Word} : laneBaseOk b = true ↔ b.toNat + 3 * 0x100 ≤ 0xFFFF ∧
    ∀ l : Lane, laneAddr b l ≠ 0x0002#16 ∧ laneAddr b l ≠ 0x0003#16 := by
  simp only [laneBaseOk, baseOk, Bool.and_eq_true, decide_eq_true_eq, List.all_eq_true,
    mem_laneAddrs, notIdAddr_iff, forall_exists_index, forall_eq_apply_imp_iff]

theorem limitOk_iff {c : Cfg} :
    c.limitOk = true ↔ ∀ n, c.regcalPollLimit = some n → 1 ≤ n := by
  unfold Cfg.limitOk
  split
  next hnone => simp [hnone]
  next lim hsome => simp [hsome]

/-- The check of a configuration, one clause of R8 a conjunct. -/
theorem wellFormed_iff {c : Cfg} : c.wellFormed = true ↔
    (∀ b ∈ c.perLaneBases, laneBaseOk b = true) ∧ (∀ a ∈ c.aggregateAddrs, notIdAddr a = true) ∧
    (∀ k ∈ c.bitIndices, bitOk k = true) ∧ (∀ x ∈ c.laneTargets, x.ok = true) ∧
    (∀ x ∈ c.allTargets, x.ok = true) ∧ c.fOscCodeLo ≤ c.fOscCodeHi ∧ c.limitOk = true ∧
    c.baseSaOfs.length = 9 ∧ c.tFaShort < c.tFaLong := by
  simp only [Cfg.wellFormed, Bool.and_eq_true, List.all_eq_true, decide_eq_true_eq, and_assoc]
  rfl

/-- What the check of a lane target says of the target's parts. -/
theorem laneTarget_ok_iff {x : LaneTarget} : x.ok = true ↔
    (∀ b k, x = .perLaneBit b k → laneBaseOk b = true ∧ k ≤ 15) ∧
    (∀ a off, x = .laneBits a off → notIdAddr a = true ∧ off ≤ 12) := by
  cases x <;> simp [LaneTarget.ok, bitOk, offOk]

/-- What the check of an all-lanes target says of the target's parts. -/
theorem allTarget_ok_iff {x : AllTarget} : x.ok = true ↔
    (∀ a k, x = .globalBit a k → notIdAddr a = true ∧ k ≤ 15) ∧
    (∀ a off, x = .laneBitsAll a off → notIdAddr a = true ∧ off ≤ 12) := by
  cases x <;> simp [AllTarget.ok, bitOk, offOk]

/-- A configuration that passes the check meets R8. -/
theorem admitted_of_wellFormed {c : Cfg} (h : c.wellFormed = true) : Admitted c := by
  obtain ⟨hbases, haddrs, hbits, hlane, hall, hfield, hlimit, hnine, hdelays⟩ := wellFormed_iff.mp h
  have hlaneBit {b k} (hx : .perLaneBit b k ∈ c.laneTargets) : laneBaseOk b = true ∧ k ≤ 15 :=
    (laneTarget_ok_iff.mp (hlane _ hx)).1 b k rfl
  have hlaneBits {a off} (hx : .laneBits a off ∈ c.laneTargets) : notIdAddr a = true ∧ off ≤ 12 :=
    (laneTarget_ok_iff.mp (hlane _ hx)).2 a off rfl
  have hglobal {a k} (hx : .globalBit a k ∈ c.allTargets) : notIdAddr a = true ∧ k ≤ 15 :=
    (allTarget_ok_iff.mp (hall _ hx)).1 a k rfl
  have hallBits {a off} (hx : .laneBitsAll a off ∈ c.allTargets) : notIdAddr a = true ∧ off ≤ 12 :=
    (allTarget_ok_iff.mp (hall _ hx)).2 a off rfl
  constructor
  case bases =>
    rintro b (hb | ⟨k, hx⟩)
    · exact laneBaseOk_iff.mp (hbases b hb)
    · exact laneBaseOk_iff.mp (hlaneBit hx).1
  case bits =>
    rintro k (hk | ⟨b, hx⟩ | ⟨a, hx⟩)
    · exact of_decide_eq_true (hbits k hk)
    · exact (hlaneBit hx).2
    · exact (hglobal hx).2
  case offsets =>
    rintro off (⟨a, hx⟩ | ⟨a, hx⟩)
    · exact (hlaneBits hx).2
    · exact (hallBits hx).2
  case addresses =>
    rintro a (ha | ⟨off, hx⟩ | ⟨k, hx⟩ | ⟨off, hx⟩)
    · exact notIdAddr_iff.mp (haddrs a ha)
    · exact notIdAddr_iff.mp (hlaneBits hx).1
    · exact notIdAddr_iff.mp (hglobal hx).1
    · exact notIdAddr_iff.mp (hallBits hx).1
  case code_field => exact hfield
  case limit => exact limitOk_iff.mp hlimit
  case nine => exact hnine
  case delays => exact hdelays

/-- A configuration that meets R8 passes the check. -/
theorem wellFormed_of_admitted {c : Cfg} (h : Admitted c) : c.wellFormed = true := by
  refine wellFormed_iff.mpr ⟨fun b hb => laneBaseOk_iff.mpr (h.bases b (.inl hb)),
    fun a ha => notIdAddr_iff.mpr (h.addresses a (.inl ha)),
    fun k hk => decide_eq_true (h.bits k (.inl hk)), fun x hx => laneTarget_ok_iff.mpr ⟨?_, ?_⟩,
    fun x hx => allTarget_ok_iff.mpr ⟨?_, ?_⟩, h.code_field, limitOk_iff.mpr h.limit, h.nine, h.delays⟩
  · rintro b k rfl
    exact ⟨laneBaseOk_iff.mpr (h.bases b (.inr ⟨k, hx⟩)), h.bits k (.inr (.inl ⟨b, hx⟩))⟩
  · rintro a off rfl
    exact ⟨notIdAddr_iff.mpr (h.addresses a (.inr (.inl ⟨off, hx⟩))), h.offsets off (.inl ⟨a, hx⟩)⟩
  · rintro a k rfl
    exact ⟨notIdAddr_iff.mpr (h.addresses a (.inr (.inr (.inl ⟨k, hx⟩)))),
      h.bits k (.inr (.inr ⟨a, hx⟩))⟩
  · rintro a off rfl
    exact ⟨notIdAddr_iff.mpr (h.addresses a (.inr (.inr (.inr ⟨off, hx⟩)))),
      h.offsets off (.inr ⟨a, hx⟩)⟩

/-- The check is R8's, with the nine offset registers and the two delays of R230. -/
theorem wellFormed_iff_admitted {c : Cfg} : c.wellFormed = true ↔ Admitted c :=
  ⟨admitted_of_wellFormed, wellFormed_of_admitted⟩

/-- Settles O6: the check of a configuration holds of the base of each per-lane register, so none of
its lane addresses wraps or is an identification offset. -/
theorem laneAddressesDoNotWrap : Obligations.LaneAddressesDoNotWrap := by
  intro c base l hbase
  obtain ⟨htop, hid⟩ := (admitted_of_wellFormed c.ok).bases base hbase
  obtain ⟨hhi, hlo⟩ := hid l
  exact ⟨laneAddr_toNat htop l, hhi, hlo, laneAddr_sub_base base l⟩

/-! ## Configuring -/

section

variable (conf : WfCfg) (level2 level3 : Bool)

/-- STATUS after reset: no outcome is available and every flag is clear (R35, R370). -/
theorem statusWord_resetWith :
    statusWord (State.resetWith conf level2 level3) = 0x0F00#16 := by
  simp [statusWord, State.resetWith, flagAt, outcomeField, refuseCode]

/-- FSM after reset: Idle, with no target and no reason (R36, R370). -/
theorem fsmWord_resetWith : fsmWord (State.resetWith conf level2 level3) = 0x0F70#16 := by
  simp [fsmWord, State.resetWith, fsmCode, targetCode, fsmReason, agentCode]

/-- IRQ_STATUS reads 0 after reset, with the interrupt retry or without it (R39, R301, R370). -/
theorem irqStatusWord_resetWith :
    irqStatusWord (State.resetWith conf level2 level3) = 0x0000#16 := by
  simp [irqStatusWord, State.resetWith, IrqLine.reset, flagAt]

/-- A reset leaves what R370's table says, under every configuration. -/
theorem afterReset_resetWith : AfterReset level2 level3 (State.resetWith conf level2 level3) where
  registers := by
    intro off
    simp only [hostRegister, statusWord_resetWith, fsmWord_resetWith, irqStatusWord_resetWith]
    simp only [State.resetWith, Config.vcoFactory]
    revert off
    decide
  fsm_idle := ⟨rfl, rfl⟩
  no_target := ⟨rfl, rfl⟩
  no_invocation := ⟨rfl, rfl, rfl⟩
  counters := ⟨rfl, rfl⟩
  monitor := ⟨rfl, rfl, rfl⟩
  line2 := rfl
  line3 := rfl
  unbound := ⟨rfl, rfl⟩
  no_events := rfl

end

/-- Settles O8: `configure` decides `wellFormed`, which is what R8 admits. -/
theorem configureChecks : Obligations.ConfigureChecks := by
  intro c l2 l3
  constructor
  · intro h
    have hwf := wellFormed_of_admitted h
    exact ⟨State.resetWith ⟨c, hwf⟩ l2 l3, dif_pos hwf, rfl, afterReset_resetWith ⟨c, hwf⟩ l2 l3⟩
  · intro h
    exact dif_neg fun hwf => h (admitted_of_wellFormed hwf)

/-! ## The command that a step runs -/

/-- A grant to the host runs the accepted command (R142). -/
theorem step_of_host_granted {i : Instr} {a d : Word} {next : Lane} {rest : List Agent} {s : State}
    (h : Ready i a d s) (hm : nextMove s = .sequencer next)
    (hg : grantChoice (takeTurn s) = some (.host, rest)) :
    step s = exec i { takeTurn s with grants := rest } := by
  obtain ⟨hfree, hcmd⟩ := h
  rw [step_of_sequencer hm, sequencerMove_free (s := takeTurn s) hfree, grant, hg]
  simp only [grantTo, takeTurn_hostCmd, hcmd]

/-- The sequencer's move runs the command whose invocation holds it (R16). -/
theorem step_of_running {i : Instr} {a d : Word} {inv : Invocation} {next : Lane} {s : State}
    (h : Running i a d inv s) (hm : nextMove s = .sequencer next) :
    step s = exec i (takeTurn s) := by
  obtain ⟨hlock, hinv, hproc⟩ := h
  rw [step_of_sequencer hm, sequencerMove_held (s := takeTurn s) hlock]
  simp only [resume, takeTurn_inv, hinv, hproc]

/-- An accepted command is the host request, with the operands latched (R140). -/
theorem accept_hostCmd (w : Word) (i : Instr) (s : State) :
    (accept w i s).hostCmd = some { cmd := i, addr := s.argAddr, data := s.argData } := by
  unfold accept
  dsimp only
  split <;> rfl

/-- The first of the draws is granted when its request is pending (R343). -/
theorem grantChoice_head {ag : Agent} {rest : List Agent} {s : State} (hg : s.grants = ag :: rest)
    (hr : requests s ag = true) : grantChoice s = some (ag, rest) := by
  simp [grantChoice, hg, firstRequest, hr]

/-- A table word that stands for a command decodes to it. -/
theorem decode_of_decodeTableWord {nbits w : Nat} {i : Instr}
    (h : decodeTableWord nbits w = some i) :
    decode (BitVec.ofNat 16 (w % 2 ^ nbits)) = .ok i := by
  unfold decodeTableWord at h
  split at h
  next j hj => cases h; exact hj
  next => cases h

/-- A placed command runs in the next step: it is accepted, the sequencer moves, and the host is the
first drawn (log 15). -/
theorem step_of_placeWord {w : Word} {i : Instr} {s : State} (h : decode w = .ok i) :
    step (placeWord w s) = exec i { takeTurn (placeWord w s) with grants := s.grants } := by
  have hplace : placeWord w s = { accept w i (clearRequest s) with
      lock := none
      inv := none
      grants := .host :: s.grants
      agenda := .sequencer .l0 :: s.agenda } := by
    simp only [placeWord, h]
  have hready : Ready i s.argAddr s.argData (placeWord w s) := by
    rw [hplace]
    exact ⟨rfl, accept_hostCmd w i (clearRequest s)⟩
  have hmove : nextMove (placeWord w s) = .sequencer .l0 := by
    rw [hplace]
    rfl
  have hgrants : (takeTurn (placeWord w s)).grants = .host :: s.grants := by
    rw [hplace]
    rfl
  refine step_of_host_granted hready hmove (grantChoice_head hgrants ?_)
  simp only [requests, takeTurn_hostCmd, hready.2, Option.isSome_some]

/-- Settles O16, one lemma a clause. -/
theorem stepRunsCommand : Obligations.StepRunsCommand :=
  ⟨fun _ _ _ _ _ _ h hm hg => step_of_host_granted h hm hg,
    fun _ _ _ _ _ _ h hm => step_of_running h hm,
    fun _ _ _ _ h => step_of_placeWord (decode_of_decodeTableWord h),
    fun _ _ hm => step_of_sequencer hm⟩

end Sys2Proof.Machine
end

section
/-! The state's statements (spec/10_state): the well-formed states and the steps that keep them, what
binds the block and what writes the trim cache, and the words of the host registers. -/

namespace Sys2Proof.Machine

/-! ## Where a primitive leads -/

/-- The positions that the use of a value read at index `n` can lead to (R202, R233, R264, R291). -/
def usePositions (u : Use) (n : Nat) : List Position :=
  match u with
  | .keep | .discard | .result | .resultHi | .azPoll _ | .vcoUpdate _ => [.run (n + 1)]
  | .identity => [.run (n + 1), .returned .deviceIdentityMismatch]
  | .azLast _ onDone back =>
    [.run (n + onDone), .run (n + 1 - back), .returned .autoZeroTimeout]
  | .regcal onDone onRetry =>
    [.run (n + onDone), .run (n + onRetry), .returned .regulatorCalibrationTimeout]
  | .lockTest _ => [.run (n + 1), .returned .txPllNotLocked]

/-- The positions that the primitive `op` at index `n` can lead to. -/
def nextPositions (op : MicroOp) (n : Nat) : List Position :=
  match op.act with
  | .write _ _ | .writeVco _ _ | .writeBack _ _ => [.run (n + 1)]
  | .read _ u => usePositions u n
  | .wait _ back => [.run (n + 1 - back)]

/-- A procedure goes on to a primitive, or returns one of the failing outcomes (R336). -/
theorem nextPositions_ok {op : MicroOp} {n : Nat} {p : Position} (h : p ∈ nextPositions op n) :
    (∃ k, p = .run k) ∨ ∃ o, p = .returned o ∧ failing o = true := by
  cases ha : op.act with
  | write _ _ | writeVco _ _ | writeBack _ _ | wait _ _ =>
    simp only [nextPositions, ha, List.mem_singleton] at h
    exact .inl ⟨_, h⟩
  | read a u =>
    simp only [nextPositions, ha] at h
    cases u with
    | keep | discard | result | resultHi | azPoll _ | vcoUpdate _ =>
      exact .inl ⟨_, List.mem_singleton.mp h⟩
    | identity | lockTest _ =>
      simp only [usePositions, List.mem_cons, List.not_mem_nil, or_false] at h
      rcases h with h | h
      · exact .inl ⟨_, h⟩
      · exact .inr ⟨_, h, rfl⟩
    | azLast _ _ _ | regcal _ _ =>
      simp only [usePositions, List.mem_cons, List.not_mem_nil, or_false] at h
      rcases h with h | h | h
      · exact .inl ⟨_, h⟩
      · exact .inl ⟨_, h⟩
      · exact .inr ⟨_, h, rfl⟩

/-- The orchestrator's registers are as they were. -/
structure SameFsm (s t : State) : Prop where
  fsm : t.fsm = s.fsm
  reason : t.reason = s.reason
  target : t.target = s.target
  agent : t.agent = s.agent

theorem SameFsm.refl (s : State) : SameFsm s s := ⟨rfl, rfl, rfl, rfl⟩

theorem SameFsm.trans {s t u : State} (h : SameFsm s t) (g : SameFsm t u) : SameFsm s u :=
  ⟨g.fsm.trans h.fsm, g.reason.trans h.reason, g.target.trans h.target, g.agent.trans h.agent⟩

/-- The value `v` was used at index `n` of the invocation `inv` in `s`, and the invocation goes on at
`p` as `inv'` in the state `t`. -/
structure Uses (u : Use) (n : Nat) (inv : Invocation) (s : State) (p : Position)
    (inv' : Invocation) (t : State) : Prop where
  pos : p ∈ usePositions u n
  proc : inv'.proc = inv.proc
  kept : Kept s t
  fsm : SameFsm s t
  vco : (∀ l, u ≠ .vcoUpdate l) → t.vco = s.vco
  high : u = .resultHi → inv'.v = t.resultHi
  identity : u = .identity → p = .run (n + 1) →
    t.resultHi = s.resultHi ∧ concat inv.v t.result = Config.productId

/-- The primitive `op` at index `n` of the invocation `inv` was performed in `s`, and the invocation
goes on at `p` as `inv'` in the state `u`. -/
structure Passes (op : MicroOp) (n : Nat) (inv : Invocation) (s : State) (p : Position)
    (inv' : Invocation) (u : State) : Prop where
  pos : p ∈ nextPositions op n
  proc : inv'.proc = inv.proc
  kept : Kept s u
  fsm : SameFsm (applyPre op.pre s) u
  vco : (∀ a l, op.act ≠ .read a (.vcoUpdate l)) → u.vco = s.vco
  high : ∀ a, op.act = .read a .resultHi → inv'.v = u.resultHi
  identity : ∀ a, op.act = .read a .identity → p = .run (n + 1) →
    u.resultHi = s.resultHi ∧ concat inv.v u.result = Config.productId

theorem azNext_mem (d : Bool) (onDone back n : Nat) (s : State) :
    (azNext d onDone back n s).1 ∈
      [.run (n + onDone), .run (n + 1 - back), .returned .autoZeroTimeout] := by
  unfold azNext
  split
  · simp
  · split
    · simp
    · split
      next hb => simp [hb]
      · simp

theorem azNext_frame (d : Bool) (onDone back n : Nat) (s : State) :
    SameFsm s (azNext d onDone back n s).2 ∧ (azNext d onDone back n s).2.vco = s.vco := by
  unfold azNext
  split
  · exact ⟨.refl s, rfl⟩
  · split
    · exact ⟨.refl s, rfl⟩
    · split <;> exact ⟨⟨rfl, rfl, rfl, rfl⟩, rfl⟩

/-- What using a value that was read can do. -/
theorem useValue_uses (u : Use) (v : Word) (n : Nat) (inv : Invocation) (go : Continuation)
    (s : State) : ∃ p inv' t, useValue u v n inv go s = go p inv' t ∧ Uses u n inv s p inv' t := by
  cases u with
  | keep | discard | result | resultHi | azPoll _ | vcoUpdate l =>
    exact ⟨_, _, _, rfl, by simp [usePositions], rfl, by constructor <;> rfl, by constructor <;> rfl,
      by simp, by simp, by simp⟩
  | identity =>
    refine ⟨_, _, _, rfl, ?_, rfl, by constructor <;> rfl, by constructor <;> rfl, by simp, by simp, ?_⟩
    · split <;> simp [usePositions]
    · split
      next hid => exact fun _ _ => ⟨rfl, hid⟩
      next => simp
  | lockTest k =>
    refine ⟨_, _, _, rfl, ?_, rfl, .refl s, .refl s, by simp, by simp, by simp⟩
    split <;> simp [usePositions]
  | regcal x y =>
    refine ⟨_, _, _, rfl, ?_, rfl, by constructor <;> rfl, by constructor <;> rfl, by simp, by simp,
      by simp⟩
    split
    · simp [usePositions]
    · split <;> simp [usePositions]
  | azLast b x y =>
    exact ⟨_, _, _, rfl, azNext_mem _ _ _ _ _, rfl, kept_azNext _ _ _ _ _,
      (azNext_frame _ _ _ _ _).1, fun _ => (azNext_frame _ _ _ _ _).2, by simp, by simp⟩

theorem applyPost_sameFsm (p : Post) (s : State) : SameFsm s (applyPost p s) := by
  cases p <;> constructor <;> rfl

theorem applyPost_vco (p : Post) (s : State) : (applyPost p s).vco = s.vco := by
  cases p <;> rfl

@[simp] theorem applyPre_resultHi (p : Pre) (s : State) :
    (applyPre p s).resultHi = s.resultHi := by cases p <;> rfl

/-- What performing a primitive can do: the invocation goes on from one of the primitive's positions,
or a failed transaction is recorded. -/
theorem perform_passes (op : MicroOp) (n : Nat) (inv : Invocation) (go : Continuation)
    (fail : State → State) (s : State) :
    (∃ p inv' u, perform op n inv go fail s = go p inv' u ∧ Passes op n inv s p inv' u) ∨
      ∃ e, perform op n inv go fail s = fail (record e (drawReply (applyPre op.pre s))) := by
  have hpre := kept_applyPre op.pre s
  cases ha : op.act with
  | write _ _ | writeVco _ _ | writeBack _ _ =>
    rw [perform_write (by rw [ha]; rfl)]
    cases nextReply s with
    | fail => exact .inr ⟨_, rfl⟩
    | ok v =>
      exact .inl ⟨_, _, _, rfl, by simp [nextPositions, ha], rfl,
        hpre.trans ((kept_drawReply _).trans ((kept_record _ _).trans (kept_applyPost _ _))),
        .trans (by constructor <;> rfl) (applyPost_sameFsm _ _),
        fun _ => (applyPost_vco _ _).trans (by simp), by simp [ha], by simp [ha]⟩
  | wait t back =>
    rw [perform_wait ha]
    exact .inl ⟨_, _, _, rfl, by simp [nextPositions, ha], rfl,
      hpre.trans ((kept_waitFor _ _).trans (kept_applyPost _ _)),
      .trans (by constructor <;> rfl) (applyPost_sameFsm _ _),
      fun _ => (applyPost_vco _ _).trans (by simp), by simp [ha], by simp [ha]⟩
  | read a u =>
    rw [perform_read ha]
    cases nextReply s with
    | fail => exact .inr ⟨_, rfl⟩
    | ok v =>
      obtain ⟨p, inv', t, heq, hu⟩ :=
        useValue_uses u v n inv go (record (.rd a v) (drawReply (applyPre op.pre s)))
      refine .inl ⟨p, inv', t, heq, by simpa [nextPositions, ha] using hu.pos, hu.proc,
        hpre.trans ((kept_drawReply _).trans ((kept_record _ _).trans hu.kept)),
        .trans (by constructor <;> rfl) hu.fsm,
        fun h => (hu.vco fun l hl => h a l (by rw [ha, hl])).trans (by simp), ?_, ?_⟩
      · rintro _ h
        exact hu.high (by simp_all)
      · rintro _ h hp
        obtain ⟨hhi, hid⟩ := hu.identity (by simp_all) hp
        exact ⟨hhi.trans (by simp [applyPre_resultHi]), hid⟩

/-! ## Straight procedures -/

/-- The primitive leads to the next one or out of the procedure, and trims nothing: it is no read
that ends an attempt of a poll, no Wait that leads back, and no read of OSC_CODE. -/
def straight : Act → Bool
  | .write _ _ | .writeVco _ _ | .writeBack _ _ => true
  | .wait _ back => decide (back = 0)
  | .read _ u =>
    match u with
    | .keep | .discard | .result | .resultHi | .identity | .azPoll _ | .lockTest _ => true
    | .azLast _ _ _ | .regcal _ _ | .vcoUpdate _ => false

/-- Every primitive of the list is straight. -/
def Straight (ops : List MicroOp) : Prop := ∀ op ∈ ops, straight op.act = true

@[simp] theorem straight_nil : Straight [] := by simp [Straight]

@[simp] theorem straight_cons {op : MicroOp} {ops : List MicroOp} :
    Straight (op :: ops) ↔ straight op.act = true ∧ Straight ops := by simp [Straight]

@[simp] theorem straight_append {xs ys : List MicroOp} :
    Straight (xs ++ ys) ↔ Straight xs ∧ Straight ys := by
  simp only [Straight, List.mem_append, or_imp, forall_and]

@[simp] theorem straight_flatMap {α : Type} {l : List α} {f : α → List MicroOp} :
    Straight (l.flatMap f) ↔ ∀ x ∈ l, Straight (f x) := by
  simp only [Straight, List.mem_flatMap]
  exact ⟨fun h x hx op ho => h op ⟨x, hx, ho⟩, fun h op ⟨x, hx, ho⟩ => h x hx op ho⟩

@[simp] theorem straight_map {α : Type} {l : List α} {f : α → MicroOp} :
    Straight (l.map f) ↔ ∀ x ∈ l, straight (f x).act = true := by simp [Straight]

section

variable (c : Cfg) (d : Domain) (L : LaneId)

@[simp] theorem straight_assertSeq : Straight (assertSeq c d L) := by
  simp [assertSeq, opOf, straight]

@[simp] theorem straight_deassertSeq : Straight (deassertSeq c d L) := by
  simp [deassertSeq, opOf, straight]

@[simp] theorem straight_waitOps (t : Delay) : Straight (waitOps c t) := by
  unfold waitOps
  split <;> simp [opOf, straight]

@[simp] theorem straight_toggleSeq : Straight (toggleSeq c d L) := by
  simp [toggleSeq, opOf, straight]

@[simp] theorem straight_azTrigger (ls : List Lane) : Straight (azTrigger c ls) := by
  induction ls using azTrigger.induct with
  | case1 => simp [azTrigger]
  | case2 l => simp [azTrigger, opOf, straight]
  | case3 l ls hls ih => simp [azTrigger, opOf, straight, ih]

@[simp] theorem straight_azArm : Straight (azArm c L) := by simp [azArm, opOf, straight]

@[simp] theorem straight_azFinish : Straight (azFinish c L) := by
  simp [azFinish, azSnapshot, opOf, straight]

@[simp] theorem straight_txRestartSeq (l : Lane) : Straight (txRestartSeq c l) := by
  simp [txRestartSeq]

@[simp] theorem straight_acqCode : Straight (acqCode c L) := by
  cases L <;> simp [acqCode, faSeq, pllRestart, opOf, straight]

@[simp] theorem straight_lockTestSeq : Straight (lockTestSeq c L) := by
  cases L <;> simp [lockTestSeq, opOf, straight]

@[simp] theorem straight_txEnableSeq : Straight (txEnableSeq c L) := by
  cases L <;> simp [txEnableSeq, opOf, straight]

@[simp] theorem straight_fifoFlushSeq : Straight (fifoFlushSeq c) := by
  simp [fifoFlushSeq, opOf, straight]

end

/-! ## A recovery does not lead back to its start -/

/-- No primitive of the list, which stands at index `k` of a procedure, leads to the procedure's
first primitive. -/
def AwayFrom (k : Nat) (ops : List MicroOp) : Prop :=
  ∀ n op, ops[n]? = some op → Position.run 0 ∉ nextPositions op (k + n)

theorem AwayFrom.of_straight {k : Nat} {ops : List MicroOp} (h : Straight ops) : AwayFrom k ops := by
  intro n op hop
  have hs := h op (List.mem_of_getElem? hop)
  cases ha : op.act with
  | write _ _ | writeVco _ _ | writeBack _ _ => simp [nextPositions, ha]
  | wait t back => simp_all [nextPositions, straight]
  | read a u => cases u <;> simp_all [nextPositions, usePositions, straight]

theorem AwayFrom.append {k : Nat} {xs ys : List MicroOp} (hx : AwayFrom k xs)
    (hy : AwayFrom (k + xs.length) ys) : AwayFrom k (xs ++ ys) := by
  intro n op hop
  rw [List.getElem?_append] at hop
  split at hop
  next hn => exact hx n op hop
  next hn =>
    have hidx : k + n = k + xs.length + (n - xs.length) := by omega
    exact hidx ▸ hy _ op hop

theorem AwayFrom.cons {k : Nat} {op : MicroOp} {ops : List MicroOp}
    (ho : Position.run 0 ∉ nextPositions op k) (h : AwayFrom (k + 1) ops) :
    AwayFrom k (op :: ops) :=
  AwayFrom.append (xs := [op]) (by rintro (_ | n) op' ⟨⟩; exact ho) h

theorem AwayFrom.nil {k : Nat} : AwayFrom k [] := fun _ _ h => by simp at h

/-- A label does not change where the primitives lead. -/
theorem AwayFrom.withPre {k : Nat} {p : Pre} {ops : List MicroOp} (h : AwayFrom k ops) :
    AwayFrom k (withPre p ops) := by
  cases ops with
  | nil => exact h
  | cons op ops =>
    rintro (_ | n) op' hop
    · cases hop; exact h 0 op rfl
    · exact h (n + 1) op' hop

/-- The reads of an attempt lead back at most to the first of them. -/
theorem awayFrom_azReads {c : Cfg} {k onDone back : Nat} {ls : List Lane} (hd : onDone ≠ 0) :
    ∀ {first : Bool}, back < k + ls.length → AwayFrom k (azReads c onDone back first ls) := by
  induction ls generalizing k with
  | nil => exact fun _ => .nil
  | cons l ls ih =>
    intro first hb
    cases ls with
    | nil =>
      refine .cons ?_ .nil
      simp only [List.length_cons, List.length_nil] at hb
      simp [nextPositions, usePositions, opOf]
      omega
    | cons l' ls =>
      refine .cons (by simp [nextPositions, usePositions, opOf]) (ih ?_)
      simp only [List.length_cons] at hb ⊢
      omega

@[simp] theorem length_azReads (c : Cfg) (onDone back : Nat) (ls : List Lane) :
    ∀ first, (azReads c onDone back first ls).length = ls.length := by
  induction ls with
  | nil => exact fun _ => rfl
  | cons l ls ih =>
    intro first
    cases ls with
    | nil => rfl
    | cons l' ls => simp [azReads, ih]

/-- The poll of an auto-zero stage leads back at most to its first read. -/
theorem awayFrom_azPollSeq {c : Cfg} {L : LaneId} {k : Nat} (hk : k ≠ 0) :
    AwayFrom k (azPollSeq c L) := by
  have hlanes : (lanes L).length ≠ 0 := by cases L <;> simp [lanes]
  unfold azPollSeq
  split
  · exact awayFrom_azReads (by omega) (by omega)
  · refine (awayFrom_azReads (by omega) (by omega)).append (.cons ?_ .nil)
    simp [nextPositions]
    omega

theorem awayFrom_vcoUpdateSeq (c : Cfg) (L : LaneId) (k : Nat) : AwayFrom k (vcoUpdateSeq c L) := by
  intro n op hop
  obtain ⟨l, -, rfl⟩ := List.mem_map.mp (List.mem_of_getElem? hop)
  simp [nextPositions, usePositions, opOf]

/-- ResetAsserted leads back at most to the first read of its poll. -/
theorem awayFrom_raCode (c : Cfg) (L : LaneId) : AwayFrom 0 (raCode c L) := by
  cases L with
  | lane l => exact .of_straight (by simp [raCode])
  | allLanes =>
    refine .cons (by simp [nextPositions]) ?_
    split
    · exact .cons (by simp [nextPositions, usePositions, opOf]) .nil
    · exact .cons (by simp [nextPositions, usePositions, opOf])
        (.cons (by simp [nextPositions, opOf]) .nil)

/-- ResetAsserted has a first primitive. -/
theorem raCode_ne_nil (c : Cfg) (L : LaneId) : raCode c L ≠ [] := by
  cases L <;> simp [raCode, assertSeq, targets]

@[simp] theorem length_withPre (p : Pre) (ops : List MicroOp) :
    (withPre p ops).length = ops.length := by cases ops <;> rfl

/-- No primitive of a recovery leads back to its first (R262). -/
theorem awayFrom_recoverCode (c : Cfg) (L : LaneId) (ag : Agent) :
    AwayFrom 0 (recoverCode c L ag) := by
  have hlen : (raCode c L).length ≠ 0 := by simpa using raCode_ne_nil c L
  have haz : AwayFrom (raCode c L).length (azCode c L) :=
    ((AwayFrom.of_straight (by simp)).append (awayFrom_azPollSeq (by omega))).append
      (.of_straight (by simp))
  have hlock : ∀ k, AwayFrom k (lockCode c L) := by
    intro k
    exact (((AwayFrom.of_straight (by simp)).append (awayFrom_vcoUpdateSeq _ _ _)).append
      (.of_straight (by simp))).append (.of_straight (by simp))
  unfold recoverCode
  refine (((awayFrom_raCode c L).withPre.append ?_).append ?_).append ?_
  · simpa using haz.withPre
  · exact (AwayFrom.of_straight (by simp)).withPre
  · exact (hlock _).withPre

/-- The first primitive of a recovery enters ResetAsserted (R262). -/
theorem recoverCode_first {c : Cfg} {L : LaneId} {ag : Agent} {op : MicroOp}
    (h : (recoverCode c L ag)[0]? = some op) : op.pre = .recoverStart L ag := by
  cases hra : raCode c L with
  | nil => exact absurd hra (raCode_ne_nil c L)
  | cons op' ops =>
    simp [recoverCode, hra, withPre] at h
    rw [← h]

theorem recoverCode_ne_nil (c : Cfg) (L : LaneId) (ag : Agent) : recoverCode c L ag ≠ [] := by
  cases hra : raCode c L with
  | nil => exact absurd hra (raCode_ne_nil c L)
  | cons op ops => simp [recoverCode, hra, withPre]

/-! ## What each part of `Inv` reads -/

/-- The fields that `HostInv` speaks of are as they were. -/
structure SameHost (s t : State) : Prop where
  cmd : t.cmd = s.cmd
  busy : t.busy = s.busy
  doneFlag : t.doneFlag = s.doneFlag
  cmdRefused : t.cmdRefused = s.cmdRefused
  outcome : t.outcome = s.outcome
  refuseReason : t.refuseReason = s.refuseReason
  hostCmd : t.hostCmd = s.hostCmd
  bound : t.bound = s.bound

/-- The fields that `MonitorInv` and `LineInv` speak of are as they were. -/
structure SameMonitor (s t : State) : Prop where
  conf : t.conf = s.conf
  monSample : t.monSample = s.monSample
  monPeriod : t.monPeriod = s.monPeriod
  monArmed : t.monArmed = s.monArmed
  monDue : t.monDue = s.monDue
  bound : t.bound = s.bound
  lock : t.lock = s.lock
  hostCmd : t.hostCmd = s.hostCmd
  irq2 : t.irq2 = s.irq2
  irq3 : t.irq3 = s.irq3

theorem Kept.sameHost {s t : State} (h : Kept s t) : SameHost s t :=
  ⟨h.cmd, h.busy, h.doneFlag, h.cmdRefused, h.outcome, h.refuseReason, h.hostCmd, h.bound⟩

theorem Kept.sameMonitor {s t : State} (h : Kept s t) : SameMonitor s t :=
  ⟨h.conf, h.monSample, h.monPeriod, h.monArmed, h.monDue, h.bound, h.lock, h.hostCmd, h.irq2,
    h.irq3⟩

theorem HostInv.of_same {s t : State} (h : HostInv s) (e : SameHost s t) : HostInv t where
  busy_eq := by rw [e.busy, e.hostCmd, h.busy_eq]
  busy_clean := by rw [e.busy, e.doneFlag, e.outcome, e.cmdRefused]; exact h.busy_clean
  refused_eq := by rw [e.cmdRefused, e.refuseReason, h.refused_eq]
  refused_clean := by rw [e.cmdRefused, e.doneFlag, e.outcome]; exact h.refused_clean
  outcome_ok := by rw [e.outcome]; exact h.outcome_ok
  cmd_eq := by rw [e.hostCmd, e.cmd]; exact h.cmd_eq
  gate := by rw [e.hostCmd, e.bound]; exact h.gate
  probe_gate := by rw [e.hostCmd, e.bound]; exact h.probe_gate

theorem MonitorInv.of_same {s t : State} (h : MonitorInv s) (e : SameMonitor s t) :
    MonitorInv t where
  sample_lt := by rw [e.monSample]; exact h.sample_lt
  period_eq := by rw [e.monPeriod, cfgOf, e.conf, h.period_eq]
  armed_bound := by rw [e.monArmed, e.bound]; exact h.armed_bound
  due_armed := by rw [e.monDue, e.monArmed]; exact h.due_armed
  one_tick := by rw [e.lock, e.monDue]; exact h.one_tick
  detach_quiet := by
    rw [detachAccepted, e.hostCmd, e.monArmed, e.irq2, e.irq3]
    exact h.detach_quiet

/-- The invariant of every interrupt line, where `runs l` says that the attempt of lane `l` runs. -/
def LinesInv (runs : IrqLane → Bool) (s : State) : Prop :=
  ∀ l, LineInv (irqGet s l) (runs l) (cfgOf s).hasIrqRetry

theorem LinesInv.of_eq {runs : IrqLane → Bool} {s t : State} (h : LinesInv runs s)
    (hconf : t.conf = s.conf) (h2 : t.irq2 = s.irq2) (h3 : t.irq3 = s.irq3) : LinesInv runs t := by
  intro l
  have hline : irqGet t l = irqGet s l := by
    cases l
    · exact h2
    · exact h3
  rw [hline, cfgOf, hconf]
  exact h l

/-- Writing one line leaves the other as it was. -/
theorem irqGet_irqSet_ne {l l' : IrqLane} (h : l' ≠ l) (x : IrqLine) (s : State) :
    irqGet (irqSet l x s) l' = irqGet s l' := by
  cases l with
  | l2 =>
    cases l' with
    | l2 => exact absurd rfl h
    | l3 => rfl
  | l3 =>
    cases l' with
    | l2 => rfl
    | l3 => exact absurd rfl h

/-- Where one line is written, the other keeps its invariant if it keeps what runs. -/
theorem LinesInv.irqSet {runs runs' : IrqLane → Bool} {l : IrqLane} {x : IrqLine} {s : State}
    (h : LinesInv runs s) (hx : LineInv x (runs' l) (cfgOf s).hasIrqRetry)
    (hruns : ∀ l', l' ≠ l → runs' l' = runs l') : LinesInv runs' (irqSet l x s) := by
  intro l'
  rw [cfgOf, irqSet_conf]
  by_cases hl : l' = l
  · rw [hl, irqGet_irqSet]
    exact hx
  · rw [irqGet_irqSet_ne hl, hruns l' hl]
    exact h l'

/-- A line may be written as long as it does not become pending while DETACH is accepted (R299). -/
theorem MonitorInv.irqSet {l : IrqLane} {x : IrqLine} {s : State} (h : MonitorInv s)
    (hx : detachAccepted s = true → x.pending = false) : MonitorInv (irqSet l x s) := by
  obtain ⟨hsample, hperiod, harmed, hdue, htick, hquiet⟩ := h
  cases l with
  | l2 => exact ⟨hsample, hperiod, harmed, hdue, htick,
      fun hd => ⟨(hquiet hd).1, hx hd, (hquiet hd).2.2⟩⟩
  | l3 => exact ⟨hsample, hperiod, harmed, hdue, htick,
      fun hd => ⟨(hquiet hd).1, (hquiet hd).2.1, hx hd⟩⟩

theorem MonitorInv.pending {l : IrqLane} {s : State} (h : MonitorInv s)
    (hd : detachAccepted s = true) : (irqGet s l).pending = false := by
  obtain ⟨-, h2, h3⟩ := h.detach_quiet hd
  cases l
  · exact h2
  · exact h3

/-- The orchestrator's registers, where `r` is the RECOVER in progress (R262). -/
structure FsmAt (r : Option (LaneId × Agent)) (s : State) : Prop where
  progress_eq : inProgress s.fsm = r.isSome
  progress_of : ∀ p, r = some p → s.target = some p.1 ∧ s.agent = p.2
  reason_eq : s.reason.isSome = decide (s.fsm = .failed)
  reason_ok : ∀ o, s.reason = some o → failing o = true
  target_eq : s.target.isSome = decide (s.fsm ≠ .idle)
  agent_ok : s.agent = .host ∨ s.agent = .monitor
  idle_agent : s.fsm = .idle → s.agent = .host

theorem fsmInv_iff {s : State} : FsmInv s ↔ FsmAt (s.inv.bind recovering) s :=
  ⟨fun ⟨h1, h2, h3, h4, h5, h6, h7⟩ => ⟨h1, h2, h3, h4, h5, h6, h7⟩,
    fun ⟨h1, h2, h3, h4, h5, h6, h7⟩ => ⟨h1, h2, h3, h4, h5, h6, h7⟩⟩

theorem FsmAt.of_same {r : Option (LaneId × Agent)} {s t : State} (h : FsmAt r s)
    (e : SameFsm s t) : FsmAt r t where
  progress_eq := by rw [e.fsm, h.progress_eq]
  progress_of := by rw [e.target, e.agent]; exact h.progress_of
  reason_eq := by rw [e.reason, e.fsm, h.reason_eq]
  reason_ok := by rw [e.reason]; exact h.reason_ok
  target_eq := by rw [e.target, e.fsm, h.target_eq]
  agent_ok := by rw [e.agent]; exact h.agent_ok
  idle_agent := by rw [e.fsm, e.agent]; exact h.idle_agent

/-! ## The orchestrator's registers -/

/-- The first primitive of a RECOVER enters ResetAsserted, whatever was before (R262). -/
theorem fsmAt_recoverStart {L : LaneId} {ag : Agent} {s : State}
    (hag : ag = .host ∨ ag = .monitor) : FsmAt (some (L, ag)) (applyPre (.recoverStart L ag) s) where
  progress_eq := rfl
  progress_of := by rintro _ ⟨⟩; exact ⟨rfl, rfl⟩
  reason_eq := rfl
  reason_ok := by rintro _ ⟨⟩
  target_eq := rfl
  agent_ok := hag
  idle_agent := by rintro ⟨⟩

/-- While a RECOVER is in progress there is a target and no reason. -/
theorem FsmAt.in_progress {p : LaneId × Agent} {s : State} (h : FsmAt (some p) s) :
    s.reason = none ∧ s.target = some p.1 := by
  have hprog : inProgress s.fsm = true := h.progress_eq
  have hreason := h.reason_eq
  refine ⟨?_, (h.progress_of p rfl).1⟩
  cases hf : s.fsm <;> simp_all [inProgress]

/-- A RECOVER goes on to its next stage (R262). -/
theorem FsmAt.stage {p : LaneId × Agent} {f : Fsm} {s : State} (h : FsmAt (some p) s)
    (hf : inProgress f = true) : FsmAt (some p) (applyPre (.stage f) s) := by
  obtain ⟨hreason, htarget⟩ := h.in_progress
  exact
    { progress_eq := hf
      progress_of := h.progress_of
      reason_eq := by cases f <;> simp_all [applyPre, inProgress]
      reason_ok := h.reason_ok
      target_eq := by cases f <;> simp_all [applyPre, inProgress]
      agent_ok := h.agent_ok
      idle_agent := by rintro (rfl : f = _); cases hf }

/-- A RECOVER in progress ends in Locked or Failed (R262, R268). -/
theorem FsmAt.recoverEnd {p : LaneId × Agent} {o : RecoveryOutcome} {s : State}
    (h : FsmAt (some p) s) (ho : o = .success ∨ failing o = true) : FsmAt none (recoverEnd o s) := by
  obtain ⟨hreason, htarget⟩ := h.in_progress
  unfold Machine.recoverEnd
  split
  next =>
    exact
      { progress_eq := rfl
        progress_of := by rintro _ ⟨⟩
        reason_eq := by simp [hreason]
        reason_ok := h.reason_ok
        target_eq := by simp [htarget]
        agent_ok := h.agent_ok
        idle_agent := by rintro ⟨⟩ }
  next hne =>
    exact
      { progress_eq := rfl
        progress_of := by rintro _ ⟨⟩
        reason_eq := rfl
        reason_ok := by rintro _ ⟨⟩; exact ho.resolve_left hne
        target_eq := by simp [htarget]
        agent_ok := h.agent_ok
        idle_agent := by rintro ⟨⟩ }

/-- The procedure of an invocation that runs the RECOVER `r`, or none. -/
def RunsRecover (c : Cfg) (r : Option (LaneId × Agent)) (code : List MicroOp) : Prop :=
  match r with
  | none => Plain code
  | some (L, ag) => code = recoverCode c L ag ∧ (ag = .host ∨ ag = .monitor)

/-- An invocation that is not before the first primitive of a RECOVER has that RECOVER in progress. -/
theorem recovering_eq {inv : Invocation} (h : (recoverOf inv.proc).isSome → inv.pos ≠ .run 0) :
    recovering inv = recoverOf inv.proc := by
  unfold recovering
  cases hr : recoverOf inv.proc with
  | none => simp
  | some p => rw [if_neg (h (by rw [hr]; rfl))]

/-- A primitive's label leaves the registers as the invocation's RECOVER wants them. -/
theorem RunsRecover.applyPre {c : Cfg} {code : List MicroOp} {inv : Invocation} {n : Nat}
    {op : MicroOp} {s : State} (hc : RunsRecover c (recoverOf inv.proc) code)
    (hpos : inv.pos = .run n) (hop : code[n]? = some op) (hf : FsmAt (recovering inv) s) :
    FsmAt (recoverOf inv.proc) (applyPre op.pre s) := by
  cases hr : recoverOf inv.proc with
  | none =>
    rw [hr] at hc
    rw [recovering_eq (by simp [hr]), hr] at hf
    rw [hc op (List.mem_of_getElem? hop)]
    exact hf
  | some p =>
    obtain ⟨L, ag⟩ := p
    rw [hr] at hc
    obtain ⟨rfl, hag⟩ := hc
    by_cases hn : n = 0
    · subst hn
      rw [recoverCode_first hop]
      exact fsmAt_recoverStart hag
    · rw [recovering_eq (by simp [hpos, hn]), hr] at hf
      have hpre := recover_pre c L ag op (List.mem_of_getElem? hop)
      cases hp : op.pre with
      | nothing => exact hf
      | recoverStart L' ag' =>
        rw [hp] at hpre
        obtain ⟨rfl, rfl⟩ := hpre
        exact fsmAt_recoverStart hag
      | stage f =>
        rw [hp] at hpre
        exact hf.stage (by rcases hpre with rfl | rfl | rfl <;> rfl)

/-- After a primitive the invocation's RECOVER is in progress. -/
theorem RunsRecover.recovering_next {c : Cfg} {code : List MicroOp} {inv inv' : Invocation}
    {n : Nat} {op : MicroOp} {p : Position} (hc : RunsRecover c (recoverOf inv.proc) code)
    (hop : code[n]? = some op) (hp : p ∈ nextPositions op n) (hproc : inv'.proc = inv.proc) :
    recovering { inv' with pos := p } = recoverOf inv.proc := by
  rw [← hproc] at hc ⊢
  refine recovering_eq (inv := { inv' with pos := p }) fun hsome hzero => ?_
  obtain ⟨⟨L, ag⟩, hr⟩ := Option.isSome_iff_exists.mp hsome
  rw [hr] at hc
  obtain ⟨rfl, -⟩ := hc
  have haway := awayFrom_recoverCode c L ag n op hop
  rw [Nat.zero_add, ← (hzero : p = .run 0)] at haway
  exact haway hp

/-- With no primitive left the invocation's RECOVER is in progress. -/
theorem RunsRecover.recovering_done {c : Cfg} {code : List MicroOp} {inv : Invocation} {n : Nat}
    (hc : RunsRecover c (recoverOf inv.proc) code) (hpos : inv.pos = .run n)
    (hdone : code[n]? = none) : recovering inv = recoverOf inv.proc := by
  refine recovering_eq fun hsome hzero => ?_
  obtain ⟨⟨L, ag⟩, hr⟩ := Option.isSome_iff_exists.mp hsome
  rw [hr] at hc
  obtain ⟨rfl, -⟩ := hc
  cases hpos.symm.trans hzero
  exact recoverCode_ne_nil c L ag (by simpa using hdone)

theorem recoverOf_command {i : Instr} {a d : Word} (h : ∀ L, i ≠ .recover L) :
    recoverOf (.command i a d) = none := by
  cases i with
  | recover L => exact absurd rfl (h L)
  | _ => rfl

theorem codeOf_runsRecover (c : Cfg) (i : Instr) (a d : Word) :
    RunsRecover c (recoverOf (.command i a d)) (codeOf c a d i) := by
  by_cases hrec : ∃ L, i = .recover L
  · obtain ⟨L, rfl⟩ := hrec
    exact ⟨rfl, .inl rfl⟩
  · push Not at hrec
    rw [recoverOf_command hrec]
    exact code_plain c a d i hrec

/-- The final updates of a command end the RECOVER it runs, if it runs one. -/
theorem FsmAt.finalOf {i : Instr} {a d : Word} {o : RecoveryOutcome} {s : State}
    (h : FsmAt (recoverOf (.command i a d)) s) (ho : o = .success ∨ failing o = true) :
    FsmAt none (finalOf i o s) := by
  by_cases hrec : ∃ L, i = .recover L
  · obtain ⟨L, rfl⟩ := hrec
    exact FsmAt.recoverEnd (p := (L, .host)) h ho
  · push Not at hrec
    rw [recoverOf_command hrec] at h
    refine h.of_same ?_
    cases i with
    | recover L => exact absurd rfl (hrec L)
    | probe =>
      show SameFsm s (if o = .success then attach s else s)
      unfold attach
      dsimp only
      split
      · split <;> constructor <;> rfl
      · exact .refl s
    | _ => constructor <;> rfl

/-! ## The invariant within a step -/

/-- What `Inv` says of a state in which the procedure `p` runs, but for the position of its
invocation and the orchestrator's registers. -/
structure Serving (p : Proc) (s : State) : Prop where
  host : HostInv s
  monitor : MonitorInv s
  lines : LinesInv (fun l => decide (p = .irqRetry l)) s
  lock_eq : s.lock = some (procAgent p)
  held : ∀ c a d, p = .command c a d → s.hostCmd = some { cmd := c, addr := a, data := d }
  bound : procAgent p ≠ .host → s.bound = true

/-- What `InvocationInv` says of the position of `inv`. -/
structure PositionInv (inv : Invocation) (s : State) : Prop where
  returned_ok : ∀ o, inv.pos = .returned o ∨ inv.pos = .retried o → failing o = true
  probe_hi : ∀ a d, inv.proc = .command .probe a d → inv.pos = .run 1 → inv.v = s.resultHi
  probe_id : ∀ a d n, inv.proc = .command .probe a d → inv.pos = .run n → 2 ≤ n →
    concat s.resultHi s.result = Config.productId

/-- With the sequencer free no invocation runs. -/
theorem Inv.inv_none {s : State} (h : Inv s) (hfree : s.lock = none) : s.inv = none := by
  simpa [hfree] using h.invocation.lock_eq

theorem Inv.lines {s : State} (h : Inv s) : LinesInv (fun l => attemptRuns l s) s
  | .l2 => h.line2
  | .l3 => h.line3

theorem Inv.serving {s : State} {inv : Invocation} (h : Inv s) (hi : s.inv = some inv) :
    Serving inv.proc s where
  host := h.host
  monitor := h.monitor
  lines := by
    have hl := h.lines
    simp only [attemptRuns, hi] at hl
    exact hl
  lock_eq := by rw [h.invocation.lock_eq, hi, Option.map_some]
  held := fun c a d => h.invocation.held inv c a d hi
  bound := h.invocation.bound inv hi

theorem Inv.position {s : State} {inv : Invocation} (h : Inv s) (hi : s.inv = some inv) :
    PositionInv inv s where
  returned_ok := fun o => h.invocation.returned_ok inv o hi
  probe_hi := fun a d => h.invocation.probe_hi inv a d hi
  probe_id := fun a d n => h.invocation.probe_id inv a d n hi

theorem Inv.fsmAt {s : State} {inv : Invocation} (h : Inv s) (hi : s.inv = some inv) :
    FsmAt (recovering inv) s := by
  simpa [hi] using fsmInv_iff.mp h.fsm

theorem Inv.fsmAt_free {s : State} (h : Inv s) (hi : s.inv = none) : FsmAt none s := by
  simpa [hi] using fsmInv_iff.mp h.fsm

/-- With the invocation written back the step is over. -/
theorem Serving.withInv {inv : Invocation} {s : State} (h : Serving inv.proc s)
    (hf : FsmAt (recovering inv) s) (hp : PositionInv inv s) : Inv (withInv inv s) where
  host := h.host.of_same (by constructor <;> rfl)
  invocation :=
    { lock_eq := h.lock_eq
      held := by rintro _ c a d ⟨⟩; exact h.held c a d
      bound := by rintro _ ⟨⟩; exact h.bound
      returned_ok := by rintro _ o ⟨⟩; exact hp.returned_ok o
      probe_hi := by rintro _ a d ⟨⟩; exact hp.probe_hi a d
      probe_id := by rintro _ a d n ⟨⟩; exact hp.probe_id a d n }
  fsm := fsmInv_iff.mpr (hf.of_same (by constructor <;> rfl))
  monitor := h.monitor.of_same (by constructor <;> rfl)
  line2 := h.lines .l2
  line3 := h.lines .l3

/-- A state in which no invocation runs is well formed when its parts are. -/
theorem inv_of_free {s : State} (hinv : s.inv = none) (hlock : s.lock = none) (hh : HostInv s)
    (hm : MonitorInv s) (hf : FsmAt none s) (hl : LinesInv (fun _ => false) s) : Inv s where
  host := hh
  invocation :=
    { lock_eq := by rw [hlock, hinv, Option.map_none]
      held := by simp [hinv]
      bound := by simp [hinv]
      returned_ok := by simp [hinv]
      probe_hi := by simp [hinv]
      probe_id := by simp [hinv] }
  fsm := fsmInv_iff.mpr (by simpa [hinv] using hf)
  monitor := hm
  line2 := by rw [attemptRuns, hinv]; exact hl .l2
  line3 := by rw [attemptRuns, hinv]; exact hl .l3

/-- The fields that `InvocationInv` and `FsmInv` speak of, but for the request, are as they were. -/
structure SameRun (s t : State) : Prop where
  lock : t.lock = s.lock
  inv : t.inv = s.inv
  bound : t.bound = s.bound
  result : t.result = s.result
  resultHi : t.resultHi = s.resultHi
  fsm : t.fsm = s.fsm
  reason : t.reason = s.reason
  target : t.target = s.target
  agent : t.agent = s.agent

/-- What another agent does beside the sequencer: the running invocation and its request stay. -/
theorem Inv.beside {s t : State} (h : Inv s) (e : SameRun s t) (hh : HostInv t)
    (hm : MonitorInv t) (hl : LinesInv (fun l => attemptRuns l s) t)
    (hc : ∀ c, s.hostCmd = some c → t.hostCmd = some c) : Inv t where
  host := hh
  invocation :=
    { lock_eq := by rw [e.lock, e.inv, h.invocation.lock_eq]
      held := fun inv c a d hi hp => hc _ (h.invocation.held inv c a d (e.inv ▸ hi) hp)
      bound := by rw [e.inv, e.bound]; exact h.invocation.bound
      returned_ok := by rw [e.inv]; exact h.invocation.returned_ok
      probe_hi := by rw [e.inv, e.resultHi]; exact h.invocation.probe_hi
      probe_id := by rw [e.inv, e.resultHi, e.result]; exact h.invocation.probe_id }
  fsm := fsmInv_iff.mpr
    (e.inv ▸ (fsmInv_iff.mp h.fsm).of_same ⟨e.fsm, e.reason, e.target, e.agent⟩)
  monitor := hm
  line2 := by rw [attemptRuns, e.inv]; exact hl .l2
  line3 := by rw [attemptRuns, e.inv]; exact hl .l3

/-- The fields that `Inv` speaks of are as they were. -/
structure SameInv (s t : State) : Prop extends SameRun s t, SameHost s t, SameMonitor s t

theorem Inv.of_same {s t : State} (h : Inv s) (e : SameInv s t) : Inv t :=
  h.beside e.toSameRun (h.host.of_same e.toSameHost) (h.monitor.of_same e.toSameMonitor)
    (h.lines.of_eq e.conf e.irq2 e.irq3) fun _ hc => e.hostCmd.trans hc

theorem Serving.of_same {p : Proc} {s t : State} (h : Serving p s) (eh : SameHost s t)
    (em : SameMonitor s t) : Serving p t where
  host := h.host.of_same eh
  monitor := h.monitor.of_same em
  lines := h.lines.of_eq em.conf em.irq2 em.irq3
  lock_eq := em.lock.trans h.lock_eq
  held := by rw [em.hostCmd]; exact h.held
  bound := by rw [em.bound]; exact h.bound

theorem Serving.of_kept {p : Proc} {s t : State} (h : Serving p s) (k : Kept s t) : Serving p t :=
  h.of_same k.sameHost k.sameMonitor

/-- A failed transaction sets the sticky fault, of which `Inv` says nothing (R333). -/
theorem Serving.failed {p : Proc} {s : State} (h : Serving p s) (l : Pre) (e : Event) :
    Serving p (setTransportFault (record e (drawReply (applyPre l s)))) :=
  (h.of_kept ((kept_applyPre l s).trans ((kept_drawReply _).trans (kept_record e _)))).of_same
    (by constructor <;> rfl) (by constructor <;> rfl)

theorem FsmAt.failed {r : Option (LaneId × Agent)} {s : State} (h : FsmAt r s) (e : Event) :
    FsmAt r (setTransportFault (record e (drawReply s))) := h.of_same (by constructor <;> rfl)

/-- Away from PROBE, only an outcome says something of a position. -/
theorem positionInv_of_not_probe {inv : Invocation} {s : State}
    (hp : ∀ a d, inv.proc ≠ .command .probe a d)
    (ho : ∀ o, inv.pos = .returned o ∨ inv.pos = .retried o → failing o = true) :
    PositionInv inv s :=
  ⟨ho, fun a d h => absurd h (hp a d), fun a d _ h => absurd h (hp a d)⟩

/-- Nothing is said of a procedure's start. -/
theorem positionInv_start {inv : Invocation} {s : State} (hp : inv.pos = .run 0) :
    PositionInv inv s := by
  constructor <;> simp_all

theorem returned_of_next {op : MicroOp} {n : Nat} {p : Position} (h : p ∈ nextPositions op n)
    (o : RecoveryOutcome) (ho : p = .returned o ∨ p = .retried o) : failing o = true := by
  rcases nextPositions_ok h with ⟨k, rfl⟩ | ⟨o', rfl, ho'⟩
  · simp at ho
  · simp_all

/-- PROBE's reads establish what is said of its positions (R290, R291). -/
theorem PositionInv.probe {inv inv' : Invocation} {n : Nat} {a d : Word} {c : Cfg} {op : MicroOp}
    {p : Position} {s u : State} (h : PositionInv inv s) (hproc : inv.proc = .command .probe a d)
    (hpos : inv.pos = .run n) (hop : (probeCode c a d)[n]? = some op)
    (hu : Passes op n inv s p inv' u) : PositionInv { inv' with pos := p } u := by
  refine ⟨returned_of_next hu.pos, fun _ _ _ hp => ?_, fun _ _ k _ hp hk => ?_⟩ <;>
    simp only at hp <;> subst hp <;> have hnext := hu.pos
  · match n, hop with
    | 0, hop =>
      cases hop
      exact hu.high _ rfl
    | 1, hop =>
      cases hop
      simp [nextPositions, usePositions, opOf] at hnext
  · match n, hop with
    | 0, hop =>
      cases hop
      simp [nextPositions, usePositions, opOf] at hnext
      omega
    | 1, hop =>
      cases hop
      have hk' : k = 2 := by simpa [nextPositions, usePositions, opOf] using hnext
      subst hk'
      obtain ⟨hhi, hid⟩ := hu.identity _ rfl rfl
      rw [hhi, ← h.probe_hi a d hproc hpos]
      exact hid

/-! ## Host commands -/

/-- What `Inv` says of the monitor and the lines where no invocation and no request is left. -/
structure Rests (s : State) : Prop where
  sample_lt : s.monSample.toNat < 64
  period_eq : s.monPeriod = (cfgOf s).tMon
  armed_bound : s.monArmed = true → s.bound = true
  due_armed : s.monDue = true → s.monArmed = true
  lines : LinesInv (fun _ => false) s

theorem Rests.attach {s : State} (h : Rests s) : Rests (attach s) := by
  obtain ⟨-, hperiod, -, -, hlines⟩ := h
  have hclear (l : IrqLane) :
      LineInv (clearBurst (irqGet s l)) false (cfgOf s).hasIrqRetry := by
    obtain ⟨-, -, -, -, habsent⟩ := hlines l
    constructor <;> simp_all [clearBurst]
  unfold Machine.attach
  dsimp only
  split
  · exact ⟨by simp, hperiod, fun _ => rfl, by simp,
      fun | .l2 => hclear .l2 | .l3 => hclear .l3⟩
  · exact ⟨by simp, hperiod, fun _ => rfl, by simp, hlines.of_eq rfl rfl rfl⟩

theorem Serving.rests {i : Instr} {a d : Word} {s : State} (h : Serving (.command i a d) s) :
    Rests s :=
  ⟨h.monitor.sample_lt, h.monitor.period_eq, h.monitor.armed_bound, h.monitor.due_armed,
    by simpa [LinesInv] using h.lines⟩

/-- The final updates of a command: PROBE attaches, and DETACH unbinds a block whose monitor is
already disarmed (R290, R293). -/
theorem Serving.rests_finalOf {i : Instr} {a d : Word} {o : RecoveryOutcome} {s : State}
    (h : Serving (.command i a d) s) : Rests (finalOf i o s) := by
  have hr := h.rests
  cases i with
  | probe =>
    show Rests (if o = .success then attach s else s)
    split
    · exact hr.attach
    · exact hr
  | detach =>
    have hquiet : s.monArmed = false :=
      (h.monitor.detach_quiet (by simp [detachAccepted, h.held _ _ _ rfl])).1
    obtain ⟨hsample, hperiod, -, hdue, hlines⟩ := hr
    exact ⟨hsample, hperiod, fun (harmed : s.monArmed = true) => by simp [hquiet] at harmed, hdue,
      hlines.of_eq rfl rfl rfl⟩
  | recover L =>
    show Rests (recoverEnd o s)
    obtain ⟨hsample, hperiod, harmed, hdue, hlines⟩ := hr
    unfold recoverEnd
    split <;> exact ⟨hsample, hperiod, harmed, hdue, hlines.of_eq rfl rfl rfl⟩
  | _ => exact hr

/-- `finish o` of a host command (R338). -/
theorem Rests.finishHost {i : Instr} {o : RecoveryOutcome} {s : State} (h : Rests s)
    (href : s.cmdRefused = false) (hreason : s.refuseReason = .none) (hf : FsmAt none s)
    (ho : o = .success ∨ failing o = true) : Inv (finishHost i o s) := by
  obtain ⟨hsample, hperiod, harmed, hdue, hlines⟩ := h
  refine inv_of_free rfl rfl ?_ ?_ (hf.of_same (by constructor <;> rfl))
    (hlines.of_eq rfl rfl rfl)
  · constructor <;> simp [href, hreason, ho]
  · exact ⟨hsample, hperiod, harmed, hdue, by simp, by simp [detachAccepted]⟩

/-- The final updates of a command leave the refusal fields alone. -/
theorem finalOf_refused (i : Instr) (o : RecoveryOutcome) (s : State) :
    (finalOf i o s).cmdRefused = s.cmdRefused ∧ (finalOf i o s).refuseReason = s.refuseReason := by
  cases i with
  | probe =>
    show (if o = .success then attach s else s).cmdRefused = _ ∧
      (if o = .success then attach s else s).refuseReason = _
    unfold attach
    dsimp only
    split
    · split <;> exact ⟨rfl, rfl⟩
    · exact ⟨rfl, rfl⟩
  | recover L =>
    show (recoverEnd o s).cmdRefused = _ ∧ (recoverEnd o s).refuseReason = _
    unfold recoverEnd
    split <;> exact ⟨rfl, rfl⟩
  | _ => exact ⟨rfl, rfl⟩

/-- A command's final step leaves a well-formed state. -/
theorem Serving.finishHost {i : Instr} {a d : Word} {o : RecoveryOutcome} {s : State}
    (h : Serving (.command i a d) s) (hf : FsmAt (recoverOf (.command i a d)) s)
    (ho : o = .success ∨ failing o = true) : Inv (finishHost i o (finalOf i o s)) := by
  have hbusy : s.busy = true := by rw [h.host.busy_eq, h.held _ _ _ rfl]; rfl
  obtain ⟨-, -, hclean⟩ := h.host.busy_clean hbusy
  have hreason : s.refuseReason = .none := by simpa [hclean] using h.host.refused_eq
  obtain ⟨href, hrr⟩ := finalOf_refused i o s
  exact h.rests_finalOf.finishHost (href.trans hclean) (hrr.trans hreason) (hf.finalOf ho) ho

/-- Every step of a host command keeps the well-formed states. -/
theorem Serving.hostAdvance {i : Instr} {a d : Word} {inv : Invocation} {s : State}
    (h : Serving (.command i a d) s) (hproc : inv.proc = .command i a d)
    (hf : FsmAt (recovering inv) s) (hp : PositionInv inv s) :
    Inv (hostAdvance i (fun c a d => codeOf c a d i) (finalOf i) a d inv s) := by
  have hcode : RunsRecover (cfgOf s) (recoverOf inv.proc) (codeOf (cfgOf s) a d i) :=
    hproc ▸ codeOf_runsRecover _ _ _ _
  have hover {o : RecoveryOutcome} (hpos : inv.pos = .returned o ∨ inv.pos = .retried o) :
      Inv (Machine.finishHost i o (finalOf i o s)) := by
    rw [recovering_eq (by rcases hpos with hpos | hpos <;> simp [hpos]), hproc] at hf
    exact h.finishHost hf (.inr (hp.returned_ok o hpos))
  unfold Machine.hostAdvance
  split
  next n hpos =>
    split
    next hop =>
      rw [hcode.recovering_done hpos hop, hproc] at hf
      exact h.finishHost hf (.inl rfl)
    next op hop =>
      have hpre := hcode.applyPre hpos hop hf
      rcases perform_passes op n inv goTo _ s with ⟨p, inv', u, heq, hu⟩ | ⟨e, heq⟩
      · rw [heq]
        have hproc' : ({ inv' with pos := p } : Invocation).proc = .command i a d :=
          hu.proc.trans hproc
        refine Serving.withInv (hproc' ▸ h.of_kept hu.kept) ?_ ?_
        · rw [hcode.recovering_next hop hu.pos hu.proc]
          exact hpre.of_same hu.fsm
        · by_cases hprobe : i = .probe
          · subst hprobe
            exact hp.probe (c := cfgOf s) hproc hpos hop hu
          · refine positionInv_of_not_probe (fun _ _ h => hprobe ?_) (returned_of_next hu.pos)
            cases hproc'.symm.trans h
            rfl
      · rw [heq]
        exact (h.failed op.pre e).finishHost (hproc ▸ hpre.failed e) (.inr rfl)
  next o hpos => exact hover (.inl hpos)
  next o hpos => exact hover (.inr hpos)

/-! ## Monitor ticks -/

/-- The phase of a tick is no part of what `Serving` says. -/
theorem Serving.phase {p q : TickPhase} {s : State} (h : Serving (.tick p) s) :
    Serving (.tick q) s :=
  ⟨h.host, h.monitor, by simpa using h.lines, h.lock_eq, by simp, h.bound⟩

theorem Serving.record {p : Proc} {s : State} (h : Serving p s) (e : Event) :
    Serving p (record e s) := h.of_kept (kept_record e s)

theorem FsmAt.record {r : Option (LaneId × Agent)} {s : State} (h : FsmAt r s) (e : Event) :
    FsmAt r (record e s) := h.of_same (by constructor <;> rfl)

/-- A released sequencer: no invocation is left, and the request and the monitor stay. -/
theorem Serving.release {p : Proc} {s : State} (h : Serving p s) (hf : FsmAt none s)
    (hl : LinesInv (fun _ => false) s) : Inv (release s) :=
  inv_of_free rfl rfl (h.host.of_same (by constructor <;> rfl))
    ⟨h.monitor.sample_lt, h.monitor.period_eq, h.monitor.armed_bound, h.monitor.due_armed, by simp,
      h.monitor.detach_quiet⟩
    (hf.of_same (by constructor <;> rfl)) (hl.of_eq rfl rfl rfl)

/-- The tick's last step keeps the well-formed states (R295). -/
theorem Serving.endTick {p : TickPhase} {o : RecoveryOutcome} {s : State}
    (h : Serving (.tick p) s) (hf : FsmAt none s) : Inv (endTick o s) := by
  refine Serving.release (p := .tick p) ?_ (hf.of_same (by constructor <;> rfl)) ?_
  · exact h.of_same (by constructor <;> rfl) (by constructor <;> rfl)
  · have hl : LinesInv (fun _ => false) s := by simpa using h.lines
    exact hl.of_eq rfl rfl rfl

/-- A tick moves to another phase, at the start of its procedure. -/
theorem Serving.toPhase {p q : TickPhase} {inv : Invocation} {s : State}
    (h : Serving (.tick p) s) (hf : FsmAt none s) : Inv (toPhase q inv s) :=
  Serving.withInv (inv := { inv with proc := .tick q, pos := .run 0 }) h.phase hf
    (positionInv_start rfl)

theorem Serving.chooseNext {p : TickPhase} {next : Lane} {left : List LaneId} {inv : Invocation}
    {s : State} (h : Serving (.tick p) s) (hf : FsmAt none s) : Inv (chooseNext next left inv s) := by
  unfold Machine.chooseNext
  split
  · exact h.toPhase hf
  · exact (h.record _).toPhase (hf.record _)

/-- A recovery inside the tick returns: the orchestrator is at Locked or Failed. -/
theorem Serving.recoveryReturned {p : Proc} {r : LaneId × Agent} {o : RecoveryOutcome} {L : LaneId}
    {s : State} (h : Serving p s) (hf : FsmAt (some r) s) (ho : o = .success ∨ failing o = true) :
    Serving p (recoveryReturned o L s) ∧ FsmAt none (recoveryReturned o L s) := by
  have hs : Serving p (recoverEnd o s) := by
    unfold recoverEnd
    split <;> exact h.of_same (by constructor <;> rfl) (by constructor <;> rfl)
  have he := hf.recoverEnd ho
  unfold Machine.recoveryReturned
  dsimp only
  split
  · exact ⟨hs.record _, he.record _⟩
  · exact ⟨(hs.record _).record _, (he.record _).record _⟩

theorem Serving.recoveryOver {p : TickPhase} {r : LaneId × Agent} {next : Lane} {L : LaneId}
    {left : List LaneId} {o : RecoveryOutcome} {inv : Invocation} {s : State}
    (h : Serving (.tick p) s) (hf : FsmAt (some r) s) (ho : o = .success ∨ failing o = true) :
    Inv (recoveryOver next L left o inv s) := by
  obtain ⟨hs, he⟩ := h.recoveryReturned (L := L) hf ho
  unfold Machine.recoveryOver
  split
  · exact hs.endTick he
  · exact hs.chooseNext he

/-- A procedure that is over at a position it went on to was successful or returned a failure. -/
theorem endOf_ok {code : List MicroOp} {p : Position} {o : RecoveryOutcome}
    (hp : ∀ o, p = .returned o ∨ p = .retried o → failing o = true) (h : endOf code p = some o) :
    o = .success ∨ failing o = true := by
  cases p with
  | run n =>
    rw [endOf_run] at h
    split at h
    · cases h; exact .inl rfl
    · cases h
  | returned o' => cases h; exact .inr (hp o (.inl rfl))
  | retried o' => cases h; exact .inr (hp o (.inr rfl))

/-- One step of a recovery inside the tick keeps the well-formed states. -/
theorem Serving.recoveryStep {next : Lane} {L : LaneId} {left : List LaneId} {inv : Invocation}
    {s : State} (h : Serving (.tick (.recover L left)) s)
    (hproc : inv.proc = .tick (.recover L left)) (hf : FsmAt (recovering inv) s)
    (hp : PositionInv inv s) : Inv (recoveryStep next L left inv s) := by
  have hrec : recoverOf inv.proc = some (L, .monitor) := by rw [hproc]; rfl
  have hcode : RunsRecover (cfgOf s) (recoverOf inv.proc) (recoverCode (cfgOf s) L .monitor) := by
    rw [hrec]
    exact ⟨rfl, .inr rfl⟩
  have hover {o : RecoveryOutcome} (hpos : inv.pos = .returned o ∨ inv.pos = .retried o) :
      Inv (Machine.recoveryOver next L left o inv s) := by
    rw [recovering_eq (by rcases hpos with hpos | hpos <;> simp [hpos]), hrec] at hf
    exact h.recoveryOver hf (.inr (hp.returned_ok o hpos))
  unfold Machine.recoveryStep
  dsimp only
  split
  next n hpos =>
    split
    next hop =>
      rw [hcode.recovering_done hpos hop, hrec] at hf
      exact h.recoveryOver hf (.inl rfl)
    next op hop =>
      have hpre := hcode.applyPre hpos hop hf
      rcases perform_passes op n inv (recoveryGoes next L left _) (recoveryFailed next L left inv) s
        with ⟨p, inv', u, heq, hu⟩ | ⟨e, heq⟩
      · rw [heq]
        have hs := h.of_kept hu.kept
        have hfu := hpre.of_same hu.fsm
        have hret := returned_of_next hu.pos
        have hgo : Inv (goTo p inv' u) := by
          have hproc' : ({ inv' with pos := p } : Invocation).proc = .tick (.recover L left) :=
            hu.proc.trans hproc
          refine Serving.withInv (hproc' ▸ hs) ?_ (positionInv_of_not_probe ?_ hret)
          · rw [hcode.recovering_next hop hu.pos hu.proc]
            exact hfu
          · intro a d ha
            cases hproc'.symm.trans ha
        unfold recoveryGoes
        split
        · exact hgo
        next o ho =>
          split
          · exact hgo
          · exact hs.recoveryOver (hrec ▸ hfu) (endOf_ok hret ho)
      · rw [heq]
        obtain ⟨hs, he⟩ := (h.failed op.pre e).recoveryReturned (L := L) (o := .transportError)
          (hrec ▸ hpre.failed e) (.inr rfl)
        exact hs.chooseNext he
  next o hpos => exact hover (.inl hpos)
  next o hpos => exact hover (.inr hpos)

/-- The word of a sample has its six bits only (R37). -/
theorem sampleWord_lt (b0 b1 b2 b3 : Bool) : (sampleWord b0 b1 b2 b3).toNat < 64 := by
  revert b0 b1 b2 b3
  decide

/-- The sample's word is six bits wide, which is all that `Inv` says of it (R37). -/
theorem Serving.sampled {p : Proc} {b0 b1 b2 b3 : Bool} {s : State} (h : Serving p s) :
    Serving p { s with monSample := sampleWord b0 b1 b2 b3 } := by
  obtain ⟨hh, ⟨-, hperiod, harmed, hdue, htick, hquiet⟩, hl, hlock, hheld, hbound⟩ := h
  exact ⟨hh.of_same (by constructor <;> rfl),
    ⟨sampleWord_lt _ _ _ _, hperiod, harmed, hdue, htick, hquiet⟩,
    hl.of_eq rfl rfl rfl, hlock, hheld, hbound⟩

theorem FsmAt.sampled {r : Option (LaneId × Agent)} {w : Word} {s : State} (h : FsmAt r s) :
    FsmAt r { s with monSample := w } := h.of_same (by constructor <;> rfl)

/-- One sampling read of the tick keeps the well-formed states. -/
theorem Serving.sampleStep {p : TickPhase} {next : Lane} {taken : List Bool} {inv : Invocation}
    {s : State} (h : Serving (.tick p) s) (hf : FsmAt none s) :
    Inv (sampleStep next taken inv s) := by
  have hdraw (e : Event) : Serving (.tick p) (Machine.record e (drawReply s)) :=
    (h.of_kept (kept_drawReply s)).record e
  have hfdraw (e : Event) : FsmAt none (Machine.record e (drawReply s)) :=
    hf.of_same (by constructor <;> rfl)
  unfold Machine.sampleStep
  cases hr : nextReply s with
  | ok v =>
    rw [memRead_ok hr]
    dsimp only
    unfold sampleTaken
    split
    next b0 b1 b2 =>
      exact (hdraw _).sampled.chooseNext (hfdraw _).sampled
    · exact (hdraw _).toPhase (hfdraw _)
  | fail =>
    rw [memRead_fail hr]
    exact ((h.failed .nothing _).record _).endTick ((hf.failed _).record _)

/-- Every step of a tick keeps the well-formed states. -/
theorem Serving.tickStep {next : Lane} {phase : TickPhase} {inv : Invocation} {s : State}
    (h : Serving (.tick phase) s) (hproc : inv.proc = .tick phase)
    (hf : FsmAt (recovering inv) s) (hp : PositionInv inv s) :
    Inv (tickStep next phase inv s) := by
  cases phase with
  | recover L left => exact h.recoveryStep hproc hf hp
  | sample taken =>
    rw [recovering_eq (by simp [hproc, recoverOf]), hproc] at hf
    exact h.sampleStep hf
  | finish =>
    rw [recovering_eq (by simp [hproc, recoverOf]), hproc] at hf
    exact h.endTick hf

/-! ## Interrupt attempts -/

theorem LinesInv.idle {l : IrqLane} {x : IrqLine} {s : State}
    (h : LinesInv (fun l' => decide (Proc.irqRetry l = .irqRetry l')) s)
    (hx : LineInv x false (cfgOf s).hasIrqRetry) : LinesInv (fun _ => false) (Machine.irqSet l x s) :=
  h.irqSet hx fun l' hne => by simp [Ne.symm hne]

/-- The end of a burst leaves a line that waits or rests (R300). -/
theorem LineInv.burstEnded {ok runs present : Bool} {x : IrqLine} (h : LineInv x runs present)
    (hp : present = true) : LineInv (burstEnded ok x) false present := by
  obtain ⟨hle, -, -, -, -⟩ := h
  unfold Machine.burstEnded
  split <;> constructor <;> simp_all [Config.irqMaxAttempts]

/-- An attempt that runs is an active line's, of a block that has the interrupt retry. -/
theorem LineInv.present {present : Bool} {x : IrqLine} (h : LineInv x true present) :
    present = true := by
  cases present with
  | true => rfl
  | false => exact absurd (h.absent rfl).1 (by simp)

/-- A line whose attempt has ended, and was not the last, waits for the next one (R300). -/
theorem LineInv.waits {present : Bool} {x : IrqLine} (h : LineInv x true present)
    (hx : x.attempts ≠ Config.irqMaxAttempts) : LineInv x false present where
  attempts_le := h.attempts_le
  waiting_lt := fun _ _ => lt_of_le_of_ne h.attempts_le hx
  running_active := by simp
  pending_active := h.pending_active
  absent := by simp [h.present]

theorem irqSet_irqGet (l : IrqLane) (s : State) : irqSet l (irqGet s l) s = s := by
  cases l <;> rfl

/-- With an attempt's lock released and its line written, the state is well formed. -/
theorem Serving.release_line {l : IrqLane} {x : IrqLine} {s : State} (h : Serving (.irqRetry l) s)
    (hf : FsmAt none s) (hx : LineInv x false (cfgOf s).hasIrqRetry)
    (hpend : detachAccepted s = true → x.pending = false) :
    Inv (irqSet l x (Machine.release s)) := by
  have hcomm : irqSet l x (Machine.release s) = Machine.release (irqSet l x s) := by cases l <;> rfl
  rw [hcomm]
  have hm := h.monitor.irqSet (l := l) hpend
  refine inv_of_free rfl rfl (h.host.of_same (by constructor <;> simp))
    ⟨hm.sample_lt, hm.period_eq, hm.armed_bound, hm.due_armed, by simp, hm.detach_quiet⟩
    (hf.of_same (by constructor <;> simp)) ((h.lines.idle hx).of_eq rfl rfl rfl)

theorem burstEnded_pending (ok : Bool) (x : IrqLine) : (burstEnded ok x).pending = false := by
  unfold burstEnded
  split
  · rfl
  next h => simpa using h

/-- The attempt's last step keeps the well-formed states (R300). -/
theorem Serving.endAttempt {l : IrqLane} {o : RecoveryOutcome} {s : State}
    (h : Serving (.irqRetry l) s) (hf : FsmAt none s) : Inv (endAttempt l o s) := by
  have hline : LineInv (irqGet s l) true (cfgOf s).hasIrqRetry := by simpa using h.lines l
  have hget (e : Event) : irqGet (Machine.release (Machine.record e s)) l = irqGet s l := by
    cases l <;> rfl
  have hend (e : Event) (ok : Bool) :
      Inv (endBurst l ok (Machine.release (Machine.record e s))) := by
    unfold endBurst
    rw [hget]
    exact (h.record e).release_line (hf.record e) (hline.burstEnded hline.present)
      fun _ => burstEnded_pending _ _
  unfold Machine.endAttempt
  dsimp only
  split
  · exact hend _ true
  · split
    · exact hend _ false
    next hlast =>
      rw [hget] at hlast
      rw [← irqSet_irqGet l (Machine.release _), hget]
      exact (h.record _).release_line (hf.record _) (hline.waits hlast)
        fun hd => h.monitor.pending hd

/-- Where an attempt goes after a primitive. -/
theorem Serving.attemptGoes {l : IrqLane} {p : Position} {inv : Invocation} {s : State}
    (h : Serving (.irqRetry l) s) (hproc : inv.proc = .irqRetry l) (hf : FsmAt none s)
    (hp : ∀ o, p = .returned o ∨ p = .retried o → failing o = true) :
    Inv (attemptGoes l p inv s) := by
  have hgo (u : State) (hs : Serving (.irqRetry l) u) (hfu : FsmAt none u) : Inv (goTo p inv u) := by
    refine Serving.withInv (inv := { inv with pos := p }) (hproc ▸ hs) ?_
      (positionInv_of_not_probe (by simp [hproc]) hp)
    rw [recovering_eq (inv := { inv with pos := p }) (by simp [hproc, recoverOf]), hproc]
    exact hfu
  cases p with
  | returned o => exact hgo _ (h.record _) (hf.record _)
  | run n => exact hgo _ h hf
  | retried o => exact hgo _ h hf

/-- Every step of an attempt keeps the well-formed states. -/
theorem Serving.attemptStep {l : IrqLane} {inv : Invocation} {s : State}
    (h : Serving (.irqRetry l) s) (hproc : inv.proc = .irqRetry l) (hf : FsmAt none s)
    (hp : PositionInv inv s) : Inv (attemptStep l inv s) := by
  unfold Machine.attemptStep
  split
  next n hpos =>
    split
    · exact h.endAttempt hf
    next op hop =>
      have hpre : op.pre = .nothing := plain_fp _ _ op (List.mem_of_getElem? hop)
      rcases perform_passes op n inv (Machine.attemptGoes l) _ s with
        ⟨p, inv', u, heq, hu⟩ | ⟨e, heq⟩
      · rw [heq]
        have hfu := hu.fsm
        rw [hpre] at hfu
        exact (h.of_kept hu.kept).attemptGoes (hu.proc.trans hproc) (hf.of_same hfu)
          (returned_of_next hu.pos)
      · rw [heq, hpre]
        exact (h.failed .nothing e).attemptGoes hproc (hf.failed e) (by simp [failing])
  next o hpos =>
    unfold attemptReturned
    split
    · exact Serving.attemptGoes (p := .retried o) (h.of_kept (kept_waitFor _ _)) hproc
        (hf.of_same (by constructor <;> rfl))
        (by simpa using hp.returned_ok o (.inl hpos))
    · exact h.endAttempt hf
  · exact h.endAttempt hf

/-! ## Grants -/

theorem Inv.lines_free {s : State} (h : Inv s) (hfree : s.lock = none) :
    LinesInv (fun _ => false) s := by
  have hl := h.lines
  simp only [attemptRuns, h.inv_none hfree] at hl
  exact hl

/-- The host request gets the lock (R142). -/
theorem Inv.beginHost {s : State} {c : HostCmd} (h : Inv s) (hfree : s.lock = none)
    (hc : s.hostCmd = some c) :
    Serving (.command c.cmd c.addr c.data) (beginHost c.cmd s) where
  host := h.host.of_same (by constructor <;> rfl)
  monitor :=
    ⟨h.monitor.sample_lt, h.monitor.period_eq, h.monitor.armed_bound, h.monitor.due_armed,
      by rintro ⟨⟩, h.monitor.detach_quiet⟩
  lines := (h.lines_free hfree).of_eq rfl rfl rfl
  lock_eq := rfl
  held := by rintro _ _ _ ⟨⟩; exact hc
  bound := fun hne => absurd rfl hne

/-- A due tick gets the lock: the block is bound, since the monitor is armed (R293, R295). -/
theorem Inv.beginTick {s : State} (h : Inv s) (hfree : s.lock = none) (hdue : s.monDue = true) :
    Serving (.tick (.sample [])) (beginTick s) where
  host := h.host.of_same (by constructor <;> rfl)
  monitor :=
    ⟨h.monitor.sample_lt, h.monitor.period_eq, h.monitor.armed_bound, by rintro ⟨⟩, fun _ => rfl,
      h.monitor.detach_quiet⟩
  lines := (h.lines_free hfree).of_eq rfl rfl rfl
  lock_eq := rfl
  held := by rintro _ _ _ ⟨⟩
  bound := fun _ => h.monitor.armed_bound (h.monitor.due_armed hdue)

/-- A waiting line counts the attempt that begins (R300). -/
theorem LineInv.begun {present : Bool} {x : IrqLine} (h : LineInv x false present)
    (hactive : x.active = true) : LineInv { x with attempts := x.attempts + 1 } true present where
  attempts_le := h.waiting_lt hactive rfl
  waiting_lt := by simp
  running_active := fun _ => ⟨hactive, by simp⟩
  pending_active := h.pending_active
  absent := fun habs => absurd hactive (by simp [(h.absent habs).2.1])

/-- A waiting line gets the lock and counts one more attempt (R300). -/
theorem Inv.beginAttempt {l : IrqLane} {s : State} (h : Inv s) (hfree : s.lock = none)
    (hbound : s.bound = true) (hactive : (irqGet s l).active = true) :
    Serving (.irqRetry l) (beginAttempt l s) := by
  have hm : MonitorInv { s with lock := some (irqAgent l) } :=
    ⟨h.monitor.sample_lt, h.monitor.period_eq, h.monitor.armed_bound, h.monitor.due_armed,
      by cases l <;> rintro ⟨⟩, h.monitor.detach_quiet⟩
  have hmon : MonitorInv (Machine.beginAttempt l s) :=
    (hm.irqSet (l := l) (x := { irqGet s l with attempts := (irqGet s l).attempts + 1 })
      h.monitor.pending).of_same (by cases l <;> constructor <;> rfl)
  have hlines : LinesInv (fun l' => decide (Proc.irqRetry l = .irqRetry l'))
      (irqSet l { irqGet s l with attempts := (irqGet s l).attempts + 1 } s) :=
    (h.lines_free hfree).irqSet (by simpa using (h.lines_free hfree l).begun hactive)
      fun l' hne => by simp [Ne.symm hne]
  exact
    { host := h.host.of_same (by cases l <;> constructor <;> rfl)
      monitor := hmon
      lines := hlines.of_eq (by cases l <;> rfl) (by cases l <;> rfl) (by cases l <;> rfl)
      lock_eq := by cases l <;> rfl
      held := by rintro _ _ _ ⟨⟩
      bound := fun _ => by simpa [Machine.beginAttempt] using hbound }

/-! ## The sequencer -/

/-- A line that a burst's end leaves as it rests or waits, with no attempt running (R300). -/
theorem Inv.endBurst {l : IrqLane} {ok : Bool} {s : State} (h : Inv s) (hfree : s.lock = none)
    (hpres : (cfgOf s).hasIrqRetry = true) : Inv (endBurst l ok s) := by
  have hlines := h.lines_free hfree
  refine inv_of_free ?_ ?_ (h.host.of_same ?_) (h.monitor.irqSet fun _ => burstEnded_pending _ _)
    ((h.fsmAt_free (h.inv_none hfree)).of_same ?_)
    (hlines.irqSet ((hlines l).burstEnded hpres) fun _ _ => rfl)
  · simpa [Machine.endBurst] using h.inv_none hfree
  · simpa [Machine.endBurst] using hfree
  · constructor <;> simp [Machine.endBurst]
  · constructor <;> simp [Machine.endBurst]

/-- A grant to an interrupt retry keeps the well-formed states. -/
theorem Inv.grantIrq {l : IrqLane} {s : State} (h : Inv s) (hfree : s.lock = none)
    (hreq : irqRequests l s = true) : Inv (grantIrq l s) := by
  obtain ⟨hactive, hpres⟩ := Bool.and_eq_true_iff.mp hreq
  unfold Machine.grantIrq
  split
  · exact h.endBurst hfree hpres
  next hgo =>
    have hbound : s.bound = true := by
      cases hb : s.bound
      · simp [hb] at hgo
      · rfl
    have hinv : (Machine.beginAttempt l s).inv =
        some { proc := .irqRetry l, pos := .run 0, v := 0#16, allDone := false } := by
      simp [Machine.beginAttempt]
    have hf : FsmAt none (Machine.beginAttempt l s) :=
      (h.fsmAt_free (h.inv_none hfree)).of_same (by cases l <;> constructor <;> rfl)
    dsimp only
    rw [hinv]
    exact (h.beginAttempt hfree hbound hactive).attemptStep rfl hf (positionInv_start rfl)

/-- A grant keeps the well-formed states, whomever it goes to. -/
theorem Inv.grantTo {who : Agent} {next : Lane} {s t : State} (h : Inv s)
    (hfree : s.lock = none) (hreq : requests s who = true)
    (ht : grantTo exec who next s = .next t) : Inv t := by
  have hf := h.fsmAt_free (h.inv_none hfree)
  cases who with
  | host =>
    simp only [Machine.grantTo] at ht
    split at ht
    next c hc =>
      rw [exec_ready (a := c.addr) (d := c.data) ⟨hfree, hc⟩] at ht
      cases ht
      exact (h.beginHost hfree hc).hostAdvance rfl (hf.of_same (by constructor <;> rfl))
        (positionInv_start rfl)
    next => cases ht; exact h
  | monitor =>
    cases ht
    exact (h.beginTick hfree hreq).tickStep rfl (hf.of_same (by constructor <;> rfl))
      (positionInv_start rfl)
  | irq2 => cases ht; exact h.grantIrq hfree hreq
  | irq3 => cases ht; exact h.grantIrq hfree hreq

/-- A step of the running invocation keeps the well-formed states. -/
theorem Inv.resume {next : Lane} {s t : State} (h : Inv s)
    (ht : resume exec next s = .next t) : Inv t := by
  unfold Machine.resume at ht
  split at ht
  next => cases ht; exact h
  next inv hi =>
    have hs := h.serving hi
    split at ht
    next c a d hp =>
      rw [hp] at hs
      rw [exec_running ⟨hs.lock_eq, hi, hp⟩] at ht
      cases ht
      exact hs.hostAdvance hp (h.fsmAt hi) (h.position hi)
    next phase hp =>
      rw [hp] at hs
      cases ht
      exact hs.tickStep hp (h.fsmAt hi) (h.position hi)
    next l hp =>
      rw [hp] at hs
      cases ht
      refine hs.attemptStep hp ?_ (h.position hi)
      have hf := h.fsmAt hi
      rwa [recovering_eq (by simp [hp, recoverOf]), hp] at hf

/-- Every move of the sequencer keeps the well-formed states. -/
theorem Inv.sequencerMove {next : Lane} {s t : State} (h : Inv s)
    (ht : sequencerMove exec next s = .next t) : Inv t := by
  cases hl : s.lock with
  | some ag =>
    rw [sequencerMove_held hl] at ht
    exact h.resume ht
  | none =>
    rw [sequencerMove_free hl, grant] at ht
    split at ht
    · cases ht; exact h
    next who rest hg =>
      have hdrawn : Inv { s with grants := rest } :=
        h.of_same (by repeat' constructor)
      refine hdrawn.grantTo hl ?_ ht
      have hreq := (grantChoice_spec s).1 who rest hg
      cases who <;> exact hreq

/-! ## The other agents -/

theorem Inv.record {s : State} (h : Inv s) (e : Event) : Inv (record e s) :=
  h.of_same (by repeat' constructor)

/-- A refused request (R141). -/
theorem Inv.refuse {r : RefuseReason} {s : State} (h : Inv s) (hidle : s.busy = false)
    (hr : r ≠ .none) : Inv (refuse r (clearRequest s)) := by
  refine h.beside (by constructor <;> rfl) ?_ (h.monitor.of_same (by constructor <;> rfl))
    (h.lines.of_eq rfl rfl rfl) fun _ hc => hc
  exact
    { busy_eq := h.host.busy_eq
      busy_clean := fun hb => absurd (hidle.symm.trans hb) (by simp)
      refused_eq := by simp [Machine.refuse, hr]
      refused_clean := fun _ => ⟨rfl, rfl⟩
      outcome_ok := by rintro _ ⟨⟩
      cmd_eq := h.host.cmd_eq
      gate := h.host.gate
      probe_gate := h.host.probe_gate }

/-- What an accepted command changes in the fields that `MonitorInv` and `LineInv` speak of:
DETACH disarms the monitor and drops what is pending (R293). -/
theorem Inv.accept {w : Word} {c : Instr} {s : State} (h : Inv s) (hidle : s.busy = false)
    (hdec : decode w = .ok c) (hgate : needsBound c = true → s.bound = true)
    (hprobe : c = .probe → s.bound = false) : Inv (accept w c (clearRequest s)) := by
  have hnone : s.hostCmd = none := by simpa [hidle] using h.host.busy_eq
  have hhost : HostInv { clearRequest s with
      cmd := w, hostCmd := some { cmd := c, addr := s.argAddr, data := s.argData }, busy := true } :=
    { busy_eq := rfl
      busy_clean := fun _ => ⟨rfl, rfl, rfl⟩
      refused_eq := by simp [clearRequest]
      refused_clean := by rintro ⟨⟩
      outcome_ok := by rintro _ ⟨⟩
      cmd_eq := by rintro _ ⟨⟩; exact hdec
      gate := by rintro _ ⟨⟩; exact hgate
      probe_gate := by rintro _ ⟨⟩; exact hprobe }
  obtain ⟨hsample, hperiod, harmed, hdue, htick, -⟩ := h.monitor
  unfold Machine.accept
  dsimp only
  split
  next hdet =>
    refine h.beside (by constructor <;> rfl) (hhost.of_same (by constructor <;> rfl))
      ⟨hsample, hperiod, by rintro ⟨⟩, by rintro ⟨⟩, fun _ => rfl, fun _ => ⟨rfl, rfl, rfl⟩⟩ ?_
      (by simp [hnone])
    have hdrop {x : IrqLine} {runs present : Bool} (hx : LineInv x runs present) :
        LineInv { x with pending := false } runs present :=
      ⟨hx.attempts_le, hx.waiting_lt, hx.running_active, by simp,
        fun habs => by simpa using ⟨(hx.absent habs).1, (hx.absent habs).2.1, (hx.absent habs).2.2.2⟩⟩
    exact fun | .l2 => hdrop h.line2 | .l3 => hdrop h.line3
  next hdet =>
    exact h.beside (by constructor <;> rfl) hhost
      ⟨hsample, hperiod, harmed, hdue, htick, by simp [detachAccepted, hdet]⟩
      (h.lines.of_eq rfl rfl rfl) (by simp [hnone])

/-- A host write to CMD (R140, R141). -/
theorem Inv.cmdWrite {w : Word} {s : State} (h : Inv s) : Inv (cmdWrite w s) := by
  unfold Machine.cmdWrite
  split
  · exact h.of_same (by repeat' constructor)
  next hb =>
    have hidle : s.busy = false := by simpa using hb
    split
    · exact h.refuse hidle (by simp)
    next c hdec =>
      unfold request
      split
      · exact h.refuse hidle (by simp)
      next hprobe =>
        split
        · exact h.refuse hidle (by simp)
        next hgate =>
          exact h.accept hidle hdec (by simpa [clearRequest] using hgate)
            (by simpa [clearRequest] using hprobe)

theorem Inv.hostWrite {off : BitVec 4} {v : Word} {s : State} (h : Inv s) :
    Inv (hostWrite off v s) := by
  have hr := h.record (.hostWr off v)
  unfold Machine.hostWrite hostEffect
  split
  · exact hr.cmdWrite
  · split
    · exact hr.of_same (by repeat' constructor)
    · split
      · exact hr.of_same (by repeat' constructor)
      · exact hr

theorem Inv.hostRead {off : BitVec 4} {s : State} (h : Inv s) : Inv (hostRead off s) := h.record _

theorem Inv.hostProgramStep {s : State} (h : Inv s) : Inv (hostProgramStep s) := by
  have hprog (rest : List HostPrim) : Inv { s with hostProg := rest } :=
    h.of_same (by repeat' constructor)
  unfold Machine.hostProgramStep
  split
  · exact h
  · exact (hprog _).hostWrite
  · exact (hprog _).hostRead
  · split
    · exact (hprog _).hostRead
    · exact h.hostRead

/-- A tick becomes due only while the monitor is armed and no tick runs (R294). -/
theorem Inv.timerStep {s : State} (h : Inv s) : Inv (timerStep s) := by
  unfold Machine.timerStep
  split
  next hen =>
    simp only [timerEnabled, Bool.and_eq_true, decide_eq_true_eq] at hen
    obtain ⟨⟨⟨harmed, -⟩, hlock⟩, -⟩ := hen
    exact h.beside (by constructor <;> rfl) (h.host.of_same (by constructor <;> rfl))
      ⟨h.monitor.sample_lt, h.monitor.period_eq, h.monitor.armed_bound, fun _ => harmed,
        fun hl => absurd hl hlock, h.monitor.detach_quiet⟩
      (h.lines.of_eq rfl rfl rfl) fun _ hc => hc
  · exact h

/-- A falling edge starts a burst or is kept for the next one (R299). -/
theorem LineInv.edgeTaken {runs present : Bool} {x : IrqLine} (h : LineInv x runs present)
    (hpres : present = true) : LineInv (edgeTaken x) runs present := by
  unfold Machine.edgeTaken
  split
  next hactive =>
    exact ⟨h.attempts_le, h.waiting_lt, h.running_active, fun _ => hactive, by simp [hpres]⟩
  next hactive =>
    have hidle : runs = false := by
      cases runs with
      | false => rfl
      | true => exact absurd (h.running_active rfl).1 hactive
    exact ⟨Nat.zero_le _, fun _ _ => Nat.succ_pos _, by simp [hidle], fun _ => rfl, by simp [hpres]⟩

/-- Writing a line keeps the well-formed states where the line does. -/
theorem Inv.irqSet {l : IrqLane} {x : IrqLine} {s : State} (h : Inv s)
    (hx : LineInv x (attemptRuns l s) (cfgOf s).hasIrqRetry)
    (hpend : detachAccepted s = true → x.pending = false) : Inv (irqSet l x s) :=
  h.beside (by cases l <;> constructor <;> rfl) (h.host.of_same (by cases l <;> constructor <;> rfl))
    (h.monitor.irqSet hpend) (h.lines.irqSet hx fun _ _ => rfl) (by simp)

/-- A sample of an interrupt input (R299). -/
theorem Inv.irqSample {l : IrqLane} {level : Bool} {s : State} (h : Inv s) :
    Inv (irqSample l level s) := by
  have hline : LineInv { irqGet s l with level := level } (attemptRuns l s)
      (cfgOf s).hasIrqRetry := by
    obtain ⟨hle, hwait, hrun, hpend, habs⟩ := h.lines l
    exact ⟨hle, hwait, hrun, hpend, habs⟩
  unfold Machine.irqSample
  split
  next hpres =>
    dsimp only
    split
    next hedge =>
      refine h.irqSet (hline.edgeTaken hpres) fun hdet => ?_
      simp [hdet] at hedge
    · exact h.irqSet hline h.monitor.pending
  · exact h

/-- The state after a reset is well formed (R370). -/
theorem inv_applyReset (level2 level3 : Bool) (s : State) : Inv (applyReset level2 level3 s) := by
  refine inv_of_free rfl rfl ?_ ?_ ?_ ?_
  · constructor <;> simp [applyReset, State.resetWith]
  · constructor <;> simp [applyReset, State.resetWith, detachAccepted]
  · constructor <;> simp [applyReset, State.resetWith, inProgress]
  · have hreset (level : Bool) {present : Bool} : LineInv (IrqLine.reset level) false present := by
      constructor <;> simp [IrqLine.reset]
    exact fun | .l2 => hreset level2 | .l3 => hreset level3

/-- The move of each agent keeps the well-formed states (R30). -/
theorem Inv.takeMove {m : Move} {s t : State} (h : Inv s) (ht : takeMove exec m s = .next t) :
    Inv t := by
  cases m with
  | sequencer next => exact h.sequencerMove ht
  | hostWrite off v => cases ht; exact h.hostWrite
  | hostRead off => cases ht; exact h.hostRead
  | hostProgram => cases ht; exact h.hostProgramStep
  | timer => cases ht; exact h.timerStep
  | irqSample l level => cases ht; exact h.irqSample
  | elapse us =>
    cases ht
    exact h.of_same (by repeat' constructor)
  | reset level2 level3 => cases ht; exact inv_applyReset level2 level3 s

theorem Inv.takeTurn {s : State} (h : Inv s) : Inv (takeTurn s) :=
  h.of_same (by repeat' constructor)

/-- Settles O11: the agent whose move it is keeps the invariant, the sequencer by way of `Serving`
and `FsmAt`, which hold from the start of a step of an invocation until its position is written
back. -/
theorem stepKeepsInv : Obligations.StepKeepsInv :=
  fun _ _ h ht => h.takeTurn.takeMove ht

/-! ## Steps that bind nothing and trim nothing -/

/-- From `s` to `t` the configuration and the trim cache stay, and the block is not bound and the
monitor not armed. -/
structure Calm (s t : State) : Prop where
  conf : t.conf = s.conf
  vco : t.vco = s.vco
  bound : t.bound = true → s.bound = true
  monArmed : t.monArmed = true → s.monArmed = true

theorem Calm.refl (s : State) : Calm s s := ⟨rfl, rfl, id, id⟩

theorem Calm.trans {s t u : State} (h : Calm s t) (g : Calm t u) : Calm s u :=
  ⟨g.conf.trans h.conf, g.vco.trans h.vco, h.bound ∘ g.bound, h.monArmed ∘ g.monArmed⟩

theorem calm_record (e : Event) (s : State) : Calm s (record e s) := ⟨rfl, rfl, id, id⟩

theorem calm_drawReply (s : State) : Calm s (drawReply s) := ⟨rfl, rfl, id, id⟩

theorem calm_setTransportFault (s : State) : Calm s (setTransportFault s) := ⟨rfl, rfl, id, id⟩

theorem calm_goTo (p : Position) (inv : Invocation) (s : State) : Calm s (goTo p inv s) :=
  ⟨rfl, rfl, id, id⟩

theorem calm_toPhase (p : TickPhase) (inv : Invocation) (s : State) : Calm s (toPhase p inv s) :=
  ⟨rfl, rfl, id, id⟩

theorem calm_release (s : State) : Calm s (release s) := ⟨rfl, rfl, id, id⟩

theorem calm_endTick (o : RecoveryOutcome) (s : State) : Calm s (endTick o s) := by
  have hs : Calm s { s with monRef := s.now } := ⟨rfl, rfl, id, id⟩
  exact (hs.trans (calm_record _ _)).trans (calm_release _)

theorem calm_recoverEnd (o : RecoveryOutcome) (s : State) : Calm s (recoverEnd o s) := by
  unfold recoverEnd
  split <;> exact ⟨rfl, rfl, id, id⟩

/-- Only the end of a successful PROBE binds (R290). -/
theorem calm_finalOf {i : Instr} {o : RecoveryOutcome} (h : ¬ (i = .probe ∧ o = .success))
    (s : State) : Calm s (finalOf i o s) := by
  cases i with
  | probe =>
    show Calm s (if o = .success then attach s else s)
    rw [if_neg fun ho => h ⟨rfl, ho⟩]
    exact .refl s
  | detach => exact ⟨rfl, rfl, by rintro ⟨⟩, id⟩
  | recover L => exact calm_recoverEnd o s
  | _ => exact .refl s

theorem calm_finishHost {i : Instr} {o : RecoveryOutcome} (h : ¬ (i = .probe ∧ o = .success))
    (s : State) : Calm s (finishHost i o (finalOf i o s)) :=
  (calm_finalOf h s).trans ⟨rfl, rfl, id, id⟩

theorem calm_chooseNext (next : Lane) (left : List LaneId) (inv : Invocation) (s : State) :
    Calm s (chooseNext next left inv s) := by
  unfold chooseNext
  split
  · exact calm_toPhase _ _ _
  · exact (calm_record _ _).trans (calm_toPhase _ _ _)

theorem calm_recoveryReturned (o : RecoveryOutcome) (L : LaneId) (s : State) :
    Calm s (recoveryReturned o L s) := by
  unfold recoveryReturned
  dsimp only
  have hended := (calm_recoverEnd o s).trans (calm_record (.ended .monitor .recover (some L) o) _)
  split
  · exact hended
  · exact hended.trans (calm_record _ _)

theorem calm_recoveryOver (next : Lane) (L : LaneId) (left : List LaneId) (o : RecoveryOutcome)
    (inv : Invocation) (s : State) : Calm s (recoveryOver next L left o inv s) := by
  unfold recoveryOver
  split
  · exact (calm_recoveryReturned o L s).trans (calm_endTick _ _)
  · exact (calm_recoveryReturned o L s).trans (calm_chooseNext _ _ _ _)

theorem calm_recoveryGoes (next : Lane) (L : LaneId) (left : List LaneId) (code : List MicroOp)
    (p : Position) (inv : Invocation) (s : State) :
    Calm s (recoveryGoes next L left code p inv s) := by
  unfold recoveryGoes
  split
  · exact calm_goTo _ _ _
  · split
    · exact calm_goTo _ _ _
    · exact calm_recoveryOver _ _ _ _ _ _

theorem calm_sampleTaken (next : Lane) (taken : List Bool) (b : Bool) (inv : Invocation)
    (s : State) : Calm s (sampleTaken next taken b inv s) := by
  unfold sampleTaken
  split
  next b0 b1 b2 =>
    have hs : Calm s { s with monSample := sampleWord b0 b1 b2 b } := ⟨rfl, rfl, id, id⟩
    exact hs.trans (calm_chooseNext _ _ _ _)
  · exact calm_toPhase _ _ _

theorem calm_sampleStep (next : Lane) (taken : List Bool) (inv : Invocation) (s : State) :
    Calm s (sampleStep next taken inv s) := by
  unfold sampleStep
  cases hr : nextReply s with
  | ok v =>
    rw [memRead_ok hr]
    exact ((calm_drawReply s).trans (calm_record _ _)).trans (calm_sampleTaken _ _ _ _ _)
  | fail =>
    rw [memRead_fail hr]
    exact ((((calm_drawReply s).trans (calm_record _ _)).trans (calm_setTransportFault _)).trans
      (calm_record _ _)).trans (calm_endTick _ _)

theorem calm_irqSet (l : IrqLane) (x : IrqLine) (s : State) : Calm s (irqSet l x s) := by
  cases l <;> exact ⟨rfl, rfl, id, id⟩

theorem calm_endAttempt (l : IrqLane) (o : RecoveryOutcome) (s : State) :
    Calm s (endAttempt l o s) := by
  have hreleased (e : Event) : Calm s (release (record e s)) :=
    (calm_record e s).trans (calm_release _)
  unfold endAttempt
  dsimp only
  split
  · exact (hreleased _).trans (calm_irqSet _ _ _)
  · split
    · exact (hreleased _).trans (calm_irqSet _ _ _)
    · exact hreleased _

theorem calm_attemptGoes (l : IrqLane) (p : Position) (inv : Invocation) (s : State) :
    Calm s (attemptGoes l p inv s) := by
  cases p <;> exact ⟨rfl, rfl, id, id⟩

theorem calm_attemptReturned (l : IrqLane) (o : RecoveryOutcome) (inv : Invocation) (s : State) :
    Calm s (attemptReturned l o inv s) := by
  unfold attemptReturned
  split
  · exact ⟨rfl, rfl, id, id⟩
  · exact calm_endAttempt _ _ _

/-! ## Where the trim cache is updated -/

/-- Every read of the list that updates the trim cache is of its lane's OSC_CODE (R234). -/
def TrimsAt (c : Cfg) (ops : List MicroOp) : Prop :=
  ∀ op ∈ ops, ∀ a l, op.act = .read a (.vcoUpdate l) → a = laneAddr c.baseOscCode l

theorem TrimsAt.of_straight {c : Cfg} {ops : List MicroOp} (h : Straight ops) : TrimsAt c ops :=
  fun op ho a l ha => by simpa [ha, straight] using h op ho

theorem TrimsAt.append {c : Cfg} {xs ys : List MicroOp} (hx : TrimsAt c xs) (hy : TrimsAt c ys) :
    TrimsAt c (xs ++ ys) :=
  fun op ho => (List.mem_append.mp ho).elim (hx op) (hy op)

theorem TrimsAt.withPre {c : Cfg} {p : Pre} {ops : List MicroOp} (h : TrimsAt c ops) :
    TrimsAt c (withPre p ops) := by
  cases ops with
  | nil => exact h
  | cons op ops =>
    simp only [TrimsAt, Machine.withPre, List.forall_mem_cons] at h ⊢
    exact h

theorem trimsAt_azReads (c : Cfg) (onDone back : Nat) (ls : List Lane) :
    ∀ first, TrimsAt c (azReads c onDone back first ls) := by
  induction ls with
  | nil => exact fun _ => .of_straight (by simp [azReads])
  | cons l ls ih =>
    intro first
    cases ls with
    | nil => simp [TrimsAt, azReads, opOf]
    | cons l' ls =>
      exact TrimsAt.append (xs := [_]) (.of_straight (by simp [opOf, straight])) (ih false)

theorem trimsAt_azCode (c : Cfg) (L : LaneId) : TrimsAt c (azCode c L) := by
  refine ((TrimsAt.of_straight (by simp)).append ?_).append (.of_straight (by simp))
  unfold azPollSeq
  split
  · exact trimsAt_azReads _ _ _ _ _
  · exact (trimsAt_azReads _ _ _ _ _).append (by simp [TrimsAt])

theorem trimsAt_lockCode (c : Cfg) (L : LaneId) : TrimsAt c (lockCode c L) := by
  refine (((TrimsAt.of_straight (by simp)).append ?_).append (.of_straight (by simp))).append
    (.of_straight (by simp))
  intro op ho a l ha
  obtain ⟨l', -, rfl⟩ := List.mem_map.mp ho
  cases ha
  rfl

theorem trimsAt_fpCode (c : Cfg) (L : LaneId) : TrimsAt c (fpCode c L) :=
  (TrimsAt.of_straight (by simp)).append (trimsAt_lockCode c L)

theorem trimsAt_raCode (c : Cfg) (L : LaneId) : TrimsAt c (raCode c L) := by
  cases L with
  | lane l => exact .of_straight (by simp [raCode])
  | allLanes =>
    simp only [raCode]
    split <;> simp [TrimsAt, opOf]

theorem trimsAt_recoverCode (c : Cfg) (L : LaneId) (ag : Agent) :
    TrimsAt c (recoverCode c L ag) :=
  (((trimsAt_raCode c L).withPre.append (trimsAt_azCode c L).withPre).append
    (TrimsAt.of_straight (by simp)).withPre).append (trimsAt_lockCode c L).withPre

theorem trimsAt_codeOf (c : Cfg) (a d : Word) (i : Instr) : TrimsAt c (codeOf c a d i) := by
  cases i with
  | runAutozero L => exact trimsAt_azCode c L
  | runFreqPll L => exact trimsAt_fpCode c L
  | recover L => exact trimsAt_recoverCode c L .host
  | disableLolMonitor L =>
    show TrimsAt c (lolDisableSeq c L)
    unfold lolDisableSeq
    split <;> exact .of_straight (by simp)
  | _ => exact .of_straight (by simp [codeOf, probeCode, detachCode, regReadCode, regWriteCode, opOf,
      straight])

/-- A recovery's last primitive is the flush's last read (R236), so none that trims. -/
theorem recoverCode_trim_not_last {c : Cfg} {L : LaneId} {ag : Agent} {n : Nat} {op : MicroOp}
    {a : Word} {l : Lane} (hop : (recoverCode c L ag)[n]? = some op)
    (hact : op.act = .read a (.vcoUpdate l)) : n + 1 < (recoverCode c L ag).length := by
  have hlast : (recoverCode c L ag).getLast? = some (opOf (.read c.aLos .discard)) := by
    cases L <;>
      simp [recoverCode, lockCode, lockTestSeq, fifoFlushSeq, withPre, List.getLast?_cons,
        List.getLast?_append]
  obtain ⟨hlt, -⟩ := List.getElem?_eq_some_iff.mp hop
  by_contra hge
  have hn : n = (recoverCode c L ag).length - 1 := by omega
  rw [List.getLast?_eq_getElem?, ← hn, hop] at hlast
  cases hlast
  cases hact

/-! ## What a step does to the binding and the trim cache -/

/-- `t` is reached from `s` by one primitive of a procedure, with bookkeeping before and after it. -/
inductive Performs (s : State) : State → Prop where
  | intro {op : MicroOp} {n : Nat} {inv : Invocation} {go : Continuation} {fail : State → State}
    {u : State} (begun : Calm s u) (reply : nextReply u = nextReply s)
    (trims : ∀ a l, op.act = .read a (.vcoUpdate l) → a = laneAddr (cfgOf u).baseOscCode l ∧
      ∀ inv' w, (go (.run (n + 1)) inv' w).trace = w.trace)
    (goes : ∀ p inv' w, Calm w (go p inv' w)) (fails : ∀ w, Calm w (fail w)) :
    Performs s (perform op n inv go fail u)

theorem Performs.begun {s u t : State} (h : Performs u t) (hc : Calm s u)
    (hr : nextReply u = nextReply s) : Performs s t := by
  cases h with
  | intro begun reply trims goes fails =>
    exact .intro (hc.trans begun) (reply.trans hr) trims goes fails

/-- A primitive binds nothing. -/
theorem Performs.binds_nothing {s t : State} (h : Performs s t) :
    (t.bound = true → s.bound = true) ∧ (t.monArmed = true → s.monArmed = true) := by
  cases h with
  | @intro op n inv go fail u begun reply trims goes fails =>
    rcases perform_passes op n inv go fail u with ⟨p, inv', w, heq, hw⟩ | ⟨e, heq⟩
    · rw [heq]
      exact ⟨fun hb => begun.bound (hw.kept.bound ▸ (goes p inv' w).bound hb),
        fun hb => begun.monArmed (hw.kept.monArmed ▸ (goes p inv' w).monArmed hb)⟩
    · rw [heq]
      have hpre := (kept_applyPre op.pre u).trans ((kept_drawReply _).trans (kept_record e _))
      exact ⟨fun hb => begun.bound (hpre.bound ▸ (fails _).bound hb),
        fun hb => begun.monArmed (hpre.monArmed ▸ (fails _).monArmed hb)⟩

/-- A primitive that changes the trim cache is the read of a lane's OSC_CODE (R234). -/
theorem Performs.trims {s t : State} (h : Performs s t) (hne : t.vco ≠ s.vco) :
    ∃ (l : Lane) (v : Word), nextReply s = .ok v ∧
      t.trace.head? = some (.rd (laneAddr (cfgOf s).baseOscCode l) v) ∧
      t.vco = vcoSet s.vco l (trimOf (cfgOf s) v) := by
  cases h with
  | @intro op n inv go fail u begun reply trims goes fails =>
    have hfail (e : Event) : (fail (record e (drawReply (applyPre op.pre u)))).vco = s.vco := by
      rw [(fails _).vco]
      exact (applyPre_vco op.pre u).trans begun.vco
    by_cases htrim : ∃ a l, op.act = .read a (.vcoUpdate l)
    · obtain ⟨a, l, hact⟩ := htrim
      obtain ⟨rfl, htrace⟩ := trims a l hact
      rw [perform_read hact] at hne ⊢
      rw [← reply]
      cases hr : nextReply u with
      | fail =>
        rw [hr] at hne
        exact absurd (hfail _) hne
      | ok v =>
        refine ⟨l, v, rfl, ?_, ?_⟩
        · simp only [useValue, htrace, record_trace, List.head?_cons, cfgOf, begun.conf]
        · simp only [useValue, (goes _ _ _).vco, record_vco, drawReply_vco, applyPre_vco, cfgOf,
            record_conf, drawReply_conf, (kept_applyPre op.pre u).conf, begun.vco, begun.conf]
    · push Not at htrim
      rcases perform_passes op n inv go fail u with ⟨p, inv', w, heq, hw⟩ | ⟨e, heq⟩
      · exact absurd (heq ▸ (goes p inv' w).vco.trans ((hw.vco htrim).trans begun.vco)) hne
      · exact absurd (heq ▸ hfail e) hne

/-- `t` is `s` after the final step of a PROBE that has read the expected identifier (R290). -/
def Attaches (s t : State) : Prop :=
  ∃ inv a d, s.inv = some inv ∧ inv.proc = .command .probe a d ∧
    endOf (probeCode (cfgOf s) a d) inv.pos = some .success ∧
    t = finishHost .probe .success (attach s)

/-- The end of a command is calm, but for that of a successful PROBE (R290). -/
theorem finishHost_cases {i : Instr} {a d : Word} {p : Position} {o : RecoveryOutcome} {s : State}
    (ho : endOf (codeOf (cfgOf s) a d i) p = some o) :
    Calm s (finishHost i o (finalOf i o s)) ∨
      (i = .probe ∧ endOf (probeCode (cfgOf s) a d) p = some .success ∧
        finishHost i o (finalOf i o s) = finishHost .probe .success (attach s)) := by
  by_cases hp : i = .probe ∧ o = .success
  · obtain ⟨rfl, rfl⟩ := hp
    exact .inr ⟨rfl, ho, rfl⟩
  · exact .inl (calm_finishHost hp s)

/-- One step of a command: calm, a primitive, or the end of a successful PROBE. -/
theorem hostAdvance_cases {i : Instr} {a d : Word} {inv : Invocation} {s t : State}
    (ht : hostAdvance i (fun c a d => codeOf c a d i) (finalOf i) a d inv s = t) :
    Calm s t ∨ Performs s t ∨
      (i = .probe ∧ endOf (probeCode (cfgOf s) a d) inv.pos = some .success ∧
        t = finishHost .probe .success (attach s)) := by
  subst ht
  unfold hostAdvance
  split
  next n hpos =>
    split
    next hop => exact (finishHost_cases (by rw [hpos, endOf_run, if_pos hop])).imp_right .inr
    next op hop =>
      refine .inr (.inl (.intro (.refl s) rfl (fun b l hact => ⟨?_, fun _ _ => rfl⟩)
        (fun p inv' w => calm_goTo p inv' w) fun w => ?_))
      · exact trimsAt_codeOf (cfgOf s) a d i op (List.mem_of_getElem? hop) b l hact
      · exact (calm_setTransportFault w).trans (calm_finishHost (by simp) _)
  next o hpos => exact (finishHost_cases (by rw [hpos]; rfl)).imp_right .inr
  next o hpos => exact (finishHost_cases (by rw [hpos]; rfl)).imp_right .inr

/-- One step of a tick. -/
theorem tickStep_cases (next : Lane) (phase : TickPhase) (inv : Invocation) (s : State) :
    Calm s (tickStep next phase inv s) ∨ Performs s (tickStep next phase inv s) := by
  cases phase with
  | sample taken => exact .inl (calm_sampleStep _ _ _ _)
  | finish => exact .inl (calm_endTick _ _)
  | recover L left =>
    simp only [tickStep, recoveryStep]
    split
    next n hpos =>
      split
      · exact .inl (calm_recoveryOver _ _ _ _ _ _)
      next op hop =>
        refine .inr (.intro (.refl s) rfl (fun a l hact => ⟨?_, fun inv' w => ?_⟩)
          (fun p inv' w => calm_recoveryGoes _ _ _ _ _ _ _) fun w => ?_)
        · exact trimsAt_recoverCode _ L .monitor op (List.mem_of_getElem? hop) a l hact
        · have hgoes : endOf (recoverCode (cfgOf s) L .monitor) (.run (n + 1)) = none :=
            if_pos (recoverCode_trim_not_last hop hact)
          simp only [recoveryGoes, hgoes, goTo_trace]
        · exact ((calm_setTransportFault w).trans (calm_recoveryReturned _ _ _)).trans
            (calm_chooseNext _ _ _ _)
    · exact .inl (calm_recoveryOver _ _ _ _ _ _)
    · exact .inl (calm_recoveryOver _ _ _ _ _ _)

/-- One step of an attempt. -/
theorem attemptStep_cases (l : IrqLane) (inv : Invocation) (s : State) :
    Calm s (attemptStep l inv s) ∨ Performs s (attemptStep l inv s) := by
  unfold attemptStep
  split
  next n hpos =>
    split
    · exact .inl (calm_endAttempt _ _ _)
    next op hop =>
      refine .inr (.intro (.refl s) rfl (fun a l' hact => ⟨?_, fun _ _ => rfl⟩)
        (fun p inv' w => calm_attemptGoes l p inv' w) fun w => ?_)
      · exact trimsAt_fpCode _ _ op (List.mem_of_getElem? hop) a l' hact
      · exact (calm_setTransportFault w).trans (calm_attemptGoes _ _ _ _)
  · exact .inl (calm_attemptReturned _ _ _ _)
  · exact .inl (calm_endAttempt _ _ _)

/-- A step that follows calm bookkeeping is of the same kind. -/
theorem calm_or_performs_begun {s u t : State} (hc : Calm s u) (hr : nextReply u = nextReply s)
    (h : Calm u t ∨ Performs u t) : Calm s t ∨ Performs s t :=
  h.imp hc.trans fun hp => hp.begun hc hr

theorem beginHost_calm (c : Instr) (s : State) :
    Calm s (beginHost c s) ∧ nextReply (beginHost c s) = nextReply s :=
  ⟨⟨rfl, rfl, id, id⟩, rfl⟩

theorem beginTick_calm (s : State) : Calm s (beginTick s) ∧ nextReply (beginTick s) = nextReply s :=
  ⟨⟨rfl, rfl, id, id⟩, rfl⟩

theorem beginAttempt_calm (l : IrqLane) (s : State) :
    Calm s (beginAttempt l s) ∧ nextReply (beginAttempt l s) = nextReply s := by
  cases l <;> exact ⟨⟨rfl, rfl, id, id⟩, rfl⟩

theorem grantIrq_cases (l : IrqLane) (s : State) :
    Calm s (grantIrq l s) ∨ Performs s (grantIrq l s) := by
  obtain ⟨hc, hr⟩ := beginAttempt_calm l s
  unfold grantIrq
  split
  · exact .inl (calm_irqSet _ _ _)
  · dsimp only
    split
    · exact calm_or_performs_begun hc hr (attemptStep_cases _ _ _)
    · exact .inl hc

/-- A grant attaches nothing: PROBE reads the identifier first (R290). -/
theorem grantTo_cases {who : Agent} {next : Lane} {s t : State} (hfree : s.lock = none)
    (ht : grantTo exec who next s = .next t) : Calm s t ∨ Performs s t := by
  cases who with
  | host =>
    simp only [grantTo] at ht
    split at ht
    next c hc =>
      rw [exec_ready (a := c.addr) (d := c.data) ⟨hfree, hc⟩] at ht
      obtain ⟨hb, hr⟩ := beginHost_calm c.cmd s
      refine calm_or_performs_begun hb hr ?_
      rcases hostAdvance_cases (Host.Outcome.next.inj ht) with h | h | ⟨-, h, -⟩
      · exact .inl h
      · exact .inr h
      · cases h
    next => cases ht; exact .inl (.refl s)
  | monitor =>
    cases ht
    obtain ⟨hb, hr⟩ := beginTick_calm s
    exact calm_or_performs_begun hb hr (tickStep_cases _ _ _ _)
  | irq2 => cases ht; exact grantIrq_cases _ _
  | irq3 => cases ht; exact grantIrq_cases _ _

/-- The command of the invocation that holds the sequencer takes its next step, whoever the holder
is. -/
theorem exec_held {i : Instr} {a d : Word} {inv : Invocation} {ag : Agent} {s : State}
    (hl : s.lock = some ag) (hi : s.inv = some inv) (hp : inv.proc = .command i a d) :
    exec i s = .next (hostAdvance i (fun c a d => codeOf c a d i) (finalOf i) a d inv s) := by
  rw [exec_eq]
  simp [runHost, hostResume, hl, hi, hp]

/-- One move of the sequencer is calm, performs a primitive, or ends a successful PROBE. -/
theorem sequencerMove_cases {next : Lane} {s t : State}
    (ht : sequencerMove exec next s = .next t) : Calm s t ∨ Performs s t ∨ Attaches s t := by
  cases hl : s.lock with
  | none =>
    rw [sequencerMove_free hl, grant] at ht
    split at ht
    · cases ht; exact .inl (.refl s)
    next who rest _ =>
      have hdrawn : Calm s { s with grants := rest } := ⟨rfl, rfl, id, id⟩
      exact (calm_or_performs_begun hdrawn rfl (grantTo_cases (s := { s with grants := rest })
        hl ht)).imp_right .inl
  | some ag =>
    rw [sequencerMove_held hl] at ht
    unfold resume at ht
    split at ht
    next => cases ht; exact .inl (.refl s)
    next inv hi =>
      split at ht
      next c a d hp =>
        rw [exec_held hl hi hp] at ht
        refine (hostAdvance_cases (Host.Outcome.next.inj ht)).imp_right (.imp_right ?_)
        rintro ⟨rfl, hend, heq⟩
        exact ⟨inv, a, d, hi, hp, hend, heq⟩
      next phase hp => cases ht; exact (tickStep_cases _ _ _ _).imp_right .inl
      next l hp => cases ht; exact (attemptStep_cases _ _ _).imp_right .inl

/-! ## The other agents bind nothing and trim nothing -/

theorem calm_cmdWrite (w : Word) (s : State) : Calm s (cmdWrite w s) := by
  have haccept (c : Instr) : Calm s (accept w c (clearRequest s)) := by
    unfold accept
    dsimp only
    split
    · exact ⟨rfl, rfl, id, by rintro ⟨⟩⟩
    · exact ⟨rfl, rfl, id, id⟩
  have hrefuse (r : RefuseReason) : Calm s (refuse r (clearRequest s)) := ⟨rfl, rfl, id, id⟩
  unfold cmdWrite
  split
  · exact ⟨rfl, rfl, id, id⟩
  · split
    · exact hrefuse _
    next c _ =>
      unfold request
      split
      · exact hrefuse _
      · split
        · exact hrefuse _
        · exact haccept c

theorem calm_hostWrite (off : BitVec 4) (v : Word) (s : State) : Calm s (hostWrite off v s) := by
  have hr := calm_record (.hostWr off v) s
  unfold hostWrite hostEffect
  split
  · exact hr.trans (calm_cmdWrite _ _)
  · split
    · exact ⟨rfl, rfl, id, id⟩
    · split
      · exact ⟨rfl, rfl, id, id⟩
      · exact hr

theorem calm_hostProgramStep (s : State) : Calm s (hostProgramStep s) := by
  have hprog (rest : List HostPrim) : Calm s { s with hostProg := rest } := ⟨rfl, rfl, id, id⟩
  unfold hostProgramStep
  split
  · exact .refl s
  · exact (hprog _).trans (calm_hostWrite _ _ _)
  · exact (hprog _).trans (calm_record _ _)
  · split
    · exact (hprog _).trans (calm_record _ _)
    · exact calm_record _ _

theorem calm_timerStep (s : State) : Calm s (timerStep s) := by
  unfold timerStep
  split <;> exact ⟨rfl, rfl, id, id⟩

theorem calm_irqSample (l : IrqLane) (level : Bool) (s : State) :
    Calm s (irqSample l level s) := by
  unfold irqSample
  split
  · dsimp only
    split <;> exact calm_irqSet _ _ _
  · exact .refl s

/-- What a step other than a reset does to the binding and the trim cache. -/
theorem step_cases {s t : State} (ht : step s = .next t) (hr : ∀ l2 l3, nextMove s ≠ .reset l2 l3) :
    Calm s t ∨ Performs s t ∨ Attaches (takeTurn s) t := by
  have hturn : Calm s (takeTurn s) := ⟨rfl, rfl, id, id⟩
  unfold step at ht
  cases hm : nextMove s with
  | sequencer next =>
    rw [hm] at ht
    rcases sequencerMove_cases ht with h | h | h
    · exact .inl (hturn.trans h)
    · exact .inr (.inl (h.begun hturn rfl))
    · exact .inr (.inr h)
  | reset l2 l3 => exact absurd hm (hr l2 l3)
  | hostWrite off v => rw [hm] at ht; cases ht; exact .inl (hturn.trans (calm_hostWrite _ _ _))
  | hostRead off => rw [hm] at ht; cases ht; exact .inl (hturn.trans (calm_record _ _))
  | hostProgram => rw [hm] at ht; cases ht; exact .inl (hturn.trans (calm_hostProgramStep _))
  | timer => rw [hm] at ht; cases ht; exact .inl (hturn.trans (calm_timerStep _))
  | irqSample l level => rw [hm] at ht; cases ht; exact .inl (hturn.trans (calm_irqSample _ _ _))
  | elapse us => rw [hm] at ht; cases ht; exact .inl ⟨rfl, rfl, id, id⟩

/-! ## The binding and the trim cache -/

/-- What `attach` writes (R292). -/
theorem attach_fields (s : State) : (attach s).bound = true ∧ (attach s).monArmed = true ∧
    (attach s).monDue = false ∧ (attach s).monSample = 0x0000#16 ∧
    (attach s).result = s.result ∧ (attach s).resultHi = s.resultHi ∧ (attach s).vco = s.vco := by
  unfold attach
  dsimp only
  split <;> exact ⟨rfl, rfl, rfl, rfl, rfl, rfl, rfl⟩

/-- The identifier's two halves (R290). -/
theorem concat_eq_productId {hi lo : Word} (h : concat hi lo = Config.productId) :
    hi = 0x0210#16 ∧ lo = 0x7440#16 := by
  have hhi := congrArg (BitVec.extractLsb' 16 16) h
  have hlo := congrArg (BitVec.extractLsb' 0 16) h
  simp only [concat] at hhi hlo
  rw [BitVec.extractLsb'_append_eq_left] at hhi
  rw [BitVec.extractLsb'_append_eq_right] at hlo
  exact ⟨hhi, hlo⟩

/-- A PROBE that succeeds has read the expected identifier (R291). -/
theorem Inv.identity_of_attaches {s t : State} (h : Inv s) (ha : Attaches s t) :
    s.resultHi = 0x0210#16 ∧ s.result = 0x7440#16 := by
  obtain ⟨inv, a, d, hi, hp, hend, -⟩ := ha
  cases hpos : inv.pos with
  | run n =>
    rw [hpos] at hend
    have hn : 2 ≤ n := by
      by_contra hlt
      rw [endOf, if_pos (by simpa [probeCode] using hlt)] at hend
      cases hend
    exact concat_eq_productId (h.invocation.probe_id inv a d n hi hp hpos hn)
  | returned o =>
    rw [hpos] at hend
    cases hend
    exact absurd (h.invocation.returned_ok inv _ hi (.inl hpos)) (by simp [failing])
  | retried o =>
    rw [hpos] at hend
    cases hend
    exact absurd (h.invocation.returned_ok inv _ hi (.inr hpos)) (by simp [failing])

/-- Settles O19: a reset unbinds, every other step binds nothing but the end of a successful PROBE,
and the invariant says what that PROBE has read. -/
theorem onlyProbeBinds : Obligations.OnlyProbeBinds := by
  intro s t h ht hbinds
  have hnot : ¬ ((t.bound = true → s.bound = true) ∧ (t.monArmed = true → s.monArmed = true)) := by
    rintro ⟨hb, ha⟩
    rcases hbinds with ⟨hs, ht⟩ | ⟨hs, ht⟩
    · simp [hb ht] at hs
    · simp [ha ht] at hs
  have hreset : ∀ l2 l3, nextMove s ≠ .reset l2 l3 := by
    intro l2 l3 hm
    rw [step, hm] at ht
    cases ht
    exact hnot ⟨by rintro ⟨⟩, by rintro ⟨⟩⟩
  rcases step_cases ht hreset with hc | hp | ha
  · exact absurd ⟨hc.bound, hc.monArmed⟩ hnot
  · exact absurd hp.binds_nothing hnot
  · obtain ⟨hhi, hlo⟩ := h.takeTurn.identity_of_attaches ha
    obtain ⟨_, _, _, -, -, -, rfl⟩ := ha
    obtain ⟨hb, harmed, hdue, hsample, hres, hresHi, -⟩ := attach_fields (takeTurn s)
    exact ⟨rfl, hresHi.trans hhi, hres.trans hlo, hb, harmed, hdue, hsample⟩

/-- Settles O20: of the three kinds of step, only a primitive writes the trim cache. -/
theorem trimCacheWrites : Obligations.TrimCacheWrites := by
  intro s t ht hreset hne
  rcases step_cases ht hreset with hc | hp | ⟨_, _, _, -, -, -, rfl⟩
  · exact absurd hc.vco hne
  · rw [← nextReply_eq_replyAt]
    exact hp.trims hne
  · obtain ⟨-, -, -, -, -, -, hvco⟩ := attach_fields (takeTurn s)
    exact absurd hvco hne

/-! ## The bits of the host's status words -/

/-- A flag of a word is one bit of it. -/
theorem getLsbD_flagAt {b : Bool} {k : Nat} (hk : k < 16) (i : Nat) :
    (flagAt b k).getLsbD i = (b && decide (i = k)) := by
  cases b with
  | false => simp [flagAt]
  | true =>
    simp only [flagAt, bit, if_true, BitVec.getLsbD_shiftLeft, BitVec.getLsbD_one, Bool.true_and]
    by_cases h : i = k
    · simp [h, hk]
    · by_cases hlt : i < k
      · simp [h, hlt]
      · have hsub : i - k ≠ 0 := by omega
        simp [h, hsub]

/-- A field of a word is the bits from its offset on. -/
theorem getLsbD_placed {n : Nat} (x : BitVec n) {k : Nat} (hk : k + n ≤ 16) (i : Nat) :
    (x.setWidth 16 <<< k).getLsbD i = (decide (k ≤ i) && x.getLsbD (i - k)) := by
  simp only [BitVec.getLsbD_shiftLeft, BitVec.getLsbD_setWidth]
  by_cases hlo : k ≤ i
  · by_cases hhi : i < 16
    · have hsub : i - k < 16 := by omega
      simp [hlo, hhi, hsub]
    · simp [hhi, BitVec.getLsbD_of_ge x (i - k) (by omega)]
  · simp [hlo, Nat.lt_of_not_le hlo]

theorem getLsbD_placed_zero {n : Nat} (x : BitVec n) (hn : n ≤ 16) (i : Nat) :
    (x.setWidth 16).getLsbD i = x.getLsbD i := by
  rw [BitVec.getLsbD_setWidth]
  by_cases hi : i < 16
  · simp [hi]
  · simp [hi, BitVec.getLsbD_of_ge x i (by omega)]

/-- The bits of STATUS (R35). -/
theorem getLsbD_statusWord (s : State) (i : Nat) : (statusWord s).getLsbD i =
    (s.busy && decide (i = 0) || s.doneFlag && decide (i = 1) || s.bound && decide (i = 2) ||
      s.monArmed && decide (i = 3) || s.transportFault && decide (i = 4) ||
      s.cmdRefused && decide (i = 5) || s.cmdOverrun && decide (i = 6) ||
      decide (8 ≤ i) && (outcomeField s.outcome).getLsbD (i - 8) ||
      decide (12 ≤ i) && (refuseCode s.refuseReason).getLsbD (i - 12)) := by
  simp only [statusWord, BitVec.getLsbD_or, getLsbD_flagAt, getLsbD_placed, Nat.reduceLT,
    Nat.reduceAdd, Nat.reduceLeDiff]

/-- The bits of FSM (R36). -/
theorem getLsbD_fsmWord (s : State) (i : Nat) : (fsmWord s).getLsbD i =
    ((fsmCode s.fsm).getLsbD i || decide (4 ≤ i) && (targetCode s.target).getLsbD (i - 4) ||
      decide (8 ≤ i) && (fsmReason s).getLsbD (i - 8) ||
      decide (12 ≤ i) && (agentCode s.agent).getLsbD (i - 12)) := by
  simp only [fsmWord, BitVec.getLsbD_or, getLsbD_placed, getLsbD_placed_zero, Nat.reduceAdd,
    Nat.reduceLeDiff]

/-- The bits of IRQ_STATUS, with the interrupt retry (R39). -/
theorem getLsbD_irqStatusWord {s : State} (h : (cfgOf s).hasIrqRetry = true) (i : Nat) :
    (irqStatusWord s).getLsbD i =
      ((BitVec.ofNat 4 s.irq2.attempts).getLsbD i ||
        decide (4 ≤ i) && (BitVec.ofNat 4 s.irq3.attempts).getLsbD (i - 4) ||
        s.irq2.active && decide (i = 8) || s.irq3.active && decide (i = 9) ||
        s.irq2.pending && decide (i = 10) || s.irq3.pending && decide (i = 11) ||
        s.irq2.lastOk && decide (i = 12) || s.irq3.lastOk && decide (i = 13)) := by
  simp only [irqStatusWord, h, if_true, BitVec.getLsbD_or, getLsbD_flagAt, getLsbD_placed,
    getLsbD_placed_zero, Nat.reduceLT, Nat.reduceAdd, Nat.reduceLeDiff]

/-- A field of a word is `x` when its bits are. -/
theorem extractLsb'_eq_of_bits {w : Word} {lo n : Nat} {x : BitVec n}
    (h : ∀ i < n, w.getLsbD (lo + i) = x.getLsbD i) : w.extractLsb' lo n = x := by
  apply BitVec.eq_of_getLsbD_eq
  intro i hi
  simp only [BitVec.getLsbD_extractLsb', hi, decide_true, Bool.true_and, h i hi]

theorem statusWord_outcome (s : State) :
    (statusWord s).extractLsb' 8 4 = outcomeField s.outcome := by
  refine extractLsb'_eq_of_bits fun i hi => ?_
  rw [getLsbD_statusWord]
  interval_cases i <;> simp

theorem statusWord_refuse (s : State) :
    (statusWord s).extractLsb' 12 3 = refuseCode s.refuseReason := by
  refine extractLsb'_eq_of_bits fun i hi => ?_
  rw [getLsbD_statusWord]
  interval_cases i <;> simp

theorem fsmWord_state (s : State) : (fsmWord s).extractLsb' 0 3 = fsmCode s.fsm := by
  refine extractLsb'_eq_of_bits fun i hi => ?_
  rw [getLsbD_fsmWord]
  interval_cases i <;> simp

theorem fsmWord_target (s : State) : (fsmWord s).extractLsb' 4 3 = targetCode s.target := by
  refine extractLsb'_eq_of_bits fun i hi => ?_
  rw [getLsbD_fsmWord]
  interval_cases i <;> simp

theorem fsmWord_reason (s : State) : (fsmWord s).extractLsb' 8 4 = fsmReason s := by
  refine extractLsb'_eq_of_bits fun i hi => ?_
  rw [getLsbD_fsmWord]
  interval_cases i <;> simp

theorem fsmWord_agent (s : State) : (fsmWord s).extractLsb' 12 2 = agentCode s.agent := by
  refine extractLsb'_eq_of_bits fun i hi => ?_
  rw [getLsbD_fsmWord]
  interval_cases i <;> simp

theorem irqStatusWord_attempts {s : State} (h : (cfgOf s).hasIrqRetry = true) :
    (irqStatusWord s).extractLsb' 0 4 = BitVec.ofNat 4 s.irq2.attempts ∧
      (irqStatusWord s).extractLsb' 4 4 = BitVec.ofNat 4 s.irq3.attempts := by
  constructor <;>
  · refine extractLsb'_eq_of_bits fun i hi => ?_
    rw [getLsbD_irqStatusWord h]
    interval_cases i <;> simp

/-! ## The fields of STATUS, FSM and IRQ_STATUS -/

/-- Settles O23: each bit is read off `getLsbD_statusWord`, each field off its own lemma. -/
theorem statusFields : Obligations.StatusFields := by
  intro s
  rw [statusWord_outcome, statusWord_refuse]
  refine ⟨?_, ?_, ?_, ?_, ?_, ?_, ?_, ?_, rfl, rfl, ?_, ?_, ?_, ?_, ?_⟩
  case refine_9 | refine_10 | refine_11 | refine_12 => intro h; rw [h]; rfl
  all_goals
    rw [getLsbD_statusWord]
    simp

/-- Before a RECOVER has ended there is no reason to show (R36). -/
theorem fsmReason_idle {s : State} (hl : s.fsm ≠ .locked) (hf : s.fsm ≠ .failed) :
    fsmReason s = 0xF#4 := by
  unfold fsmReason
  split
  next h => exact absurd h hl
  next h => exact absurd h hf
  all_goals rfl

/-- Settles O25: each bit is read off the word's bit lemma, each field off its own lemma; a count of
attempts up to eight fits its four bits (R59). -/
theorem fsmAndIrqFields : Obligations.FsmAndIrqFields := by
  intro s
  have hfit {n : Nat} (hn : n ≤ 8) : (BitVec.ofNat 4 n).toNat = n := by
    rw [BitVec.toNat_ofNat]
    omega
  rw [fsmWord_state, fsmWord_target, fsmWord_reason, fsmWord_agent]
  refine ⟨rfl, ?_, rfl, ?_, rfl, rfl, ?_, ?_, ?_, ?_, ?_, ?_, ?_, ?_⟩
  · rw [getLsbD_fsmWord]; simp
  · rw [getLsbD_fsmWord]; simp
  · intro h; rw [fsmReason, h]; rfl
  · intro o h ho; rw [fsmReason, h, ho]; rfl
  · exact fsmReason_idle
  · intro h; rw [h]; rfl
  · intro h; rw [h]; rfl
  · refine extractLsb'_eq_of_bits fun i hi => ?_
    rw [getLsbD_fsmWord]
    interval_cases i <;> simp
  · intro h
    simp [irqStatusWord, h]
  · intro h h2 h3
    obtain ⟨hatt2, hatt3⟩ := irqStatusWord_attempts h
    rw [hatt2, hatt3, hfit h2, hfit h3]
    refine ⟨rfl, rfl, ?_, ?_, ?_, ?_, ?_, ?_, ?_⟩
    case refine_7 =>
      refine extractLsb'_eq_of_bits fun i hi => ?_
      rw [getLsbD_irqStatusWord h]
      interval_cases i <;> simp
    all_goals
      rw [getLsbD_irqStatusWord h]
      simp

/-- A word has no bit of a mask when each bit of the mask is clear in it. -/
theorem and_eq_zero_of_bits {w m : Word} (h : ∀ i < 16, m.getLsbD i = true → w.getLsbD i = false) :
    w &&& m = 0#16 := by
  apply BitVec.eq_of_getLsbD_eq
  intro i hi
  rw [BitVec.getLsbD_and, BitVec.getLsbD_zero]
  cases hm : m.getLsbD i with
  | false => exact Bool.and_false _
  | true => rw [h i hi hm]; rfl

theorem statusWord_reserved (s : State) : statusWord s &&& 0x8080#16 = 0#16 := by
  refine and_eq_zero_of_bits fun i hi hm => ?_
  rw [getLsbD_statusWord]
  interval_cases i <;> simp at hm ⊢

theorem fsmWord_reserved (s : State) : fsmWord s &&& 0xC088#16 = 0#16 := by
  refine and_eq_zero_of_bits fun i hi hm => ?_
  rw [getLsbD_fsmWord]
  interval_cases i <;> simp at hm ⊢

theorem irqStatusWord_reserved (s : State) : irqStatusWord s &&& 0xC000#16 = 0#16 := by
  cases h : (cfgOf s).hasIrqRetry with
  | false => simp [irqStatusWord, h]
  | true =>
    refine and_eq_zero_of_bits fun i hi hm => ?_
    rw [getLsbD_irqStatusWord h]
    interval_cases i <;> simp at hm ⊢

/-- MON_SAMPLE's reserved bits are those above its six (R37). -/
theorem and_high_eq_zero {w : Word} (h : w.toNat < 64) : w &&& 0xFFC0#16 = 0#16 := by
  refine and_eq_zero_of_bits fun i hi hm => ?_
  have h6 : 6 ≤ i := by
    by_contra hlt
    interval_cases i <;> simp at hm
  exact Nat.testBit_lt_two_pow (h.trans_le (Nat.pow_le_pow_right (n := 2) (by decide) h6))

/-! ## Host accesses -/

/-- A step whose move is a host read. -/
theorem step_hostRead {off : BitVec 4} {s : State} (h : nextMove s = .hostRead off) :
    step s = .next (hostRead off (takeTurn s)) := by
  rw [step, h]
  rfl

theorem step_hostWrite {off : BitVec 4} {v : Word} {s : State} (h : nextMove s = .hostWrite off v) :
    step s = .next (hostWrite off v (takeTurn s)) := by
  rw [step, h]
  rfl

/-- What a host read returns, as a table of the registers by their offsets (R31 to R40). -/
theorem hostRegister_eq (off : BitVec 4) (s : State) : hostRegister off s =
    ([s.cmd, s.argAddr, s.argData, s.result, s.resultHi, statusWord s, fsmWord s, s.monSample,
      s.vco.l0, s.vco.l1, s.vco.l2, s.vco.l3, irqStatusWord s][off.toNat]?).getD 0x0000#16 := by
  obtain ⟨⟨n, hn⟩⟩ := off
  interval_cases n <;> rfl

/-- The reserved offsets read 0 (R40). -/
theorem hostRegister_reserved {off : BitVec 4} (h : 0xD#4 ≤ off) (s : State) :
    hostRegister off s = 0x0000#16 := by
  have hlen : 13 ≤ off.toNat := h
  rw [hostRegister_eq, List.getElem?_eq_none (by simpa using hlen), Option.getD_none]

/-- A write that no register takes (R40). -/
theorem hostEffect_ignored {off : BitVec 4} (h : 0x3#4 ≤ off) (v : Word) (s : State) :
    hostEffect off v s = s := by
  have hne (k : BitVec 4) (hk : k < 0x3#4) : off ≠ k := by
    rintro rfl
    exact absurd hk (BitVec.not_lt.mpr h)
  rw [hostEffect, if_neg (hne _ (by decide)), if_neg (hne _ (by decide)), if_neg (hne _ (by decide))]

/-- Settles O27: a read records what the table of registers holds at its offset, and a write to an
operand register is that one update. -/
theorem hostAccesses : Obligations.HostAccesses := by
  refine ⟨fun off s h => ?_, fun v s h => ?_, fun v s h => ?_⟩
  · rw [step_hostRead h, hostRead, hostRegister_eq]
    rfl
  · rw [step_hostWrite h]
    rfl
  · rw [step_hostWrite h]
    rfl

/-- Settles O26: no register stands at the reserved offsets, no effect at the read-only ones, and no
field at the reserved bits; of MON_SAMPLE the invariant says that it is six bits wide. -/
theorem reservedAndReadOnly : Obligations.ReservedAndReadOnly := by
  refine ⟨fun off s hm hoff => ?_, fun off v s hm hoff => ?_, fun s h => ⟨?_, ?_, ?_, ?_⟩⟩
  · rw [step_hostRead hm, hostRead, hostRegister_reserved hoff]
    rfl
  · rw [step_hostWrite hm, hostWrite, hostEffect_ignored hoff]
    rfl
  · exact statusWord_reserved s
  · exact fsmWord_reserved s
  · exact and_high_eq_zero h.monitor.sample_lt
  · exact irqStatusWord_reserved s

end Sys2Proof.Machine
end

section
/-! The memory's statement (spec/20_memory): a step of a command issues at most one transaction, and
writes the one word its procedure names. -/

namespace Sys2Proof.Machine

open Reference

/-! ## The events a step appends -/

/-- From `s` on, the trace of `t` holds at most one transaction, and of the writes only that of `w`,
completed or failed as the PHY's next answer says (R72, R73). -/
def Stores (w : Option (Word × Word)) (s t : State) : Prop :=
  ∃ es, t.trace = es ++ s.trace ∧ transactions es ≤ 1 ∧
    es.filter isStore = storeEvents w (nextReply s)

/-- No event is yet appended, and nothing is to be written. -/
theorem Stores.refl (s : State) : Stores none s s := ⟨[], rfl, Nat.zero_le 1, rfl⟩

/-- One event is appended. -/
theorem Stores.of_event {w : Option (Word × Word)} {e : Event} {s t : State}
    (ht : t.trace = e :: s.trace) (he : [e].filter isStore = storeEvents w (nextReply s)) :
    Stores w s t :=
  ⟨[e], ht, List.length_filter_le isTransaction [e], he⟩

/-- Updates that append no event. -/
theorem Stores.of_trace_eq {w : Option (Word × Word)} {s t u : State} (h : Stores w s t)
    (ht : u.trace = t.trace) : Stores w s u := by
  obtain ⟨es, htrace, hone, hstores⟩ := h
  exact ⟨es, ht.trans htrace, hone, hstores⟩

/-- The End event of a command is no transaction (R338). -/
theorem Stores.finishHost {w : Option (Word × Word)} {s t : State} (h : Stores w s t) (i : Instr)
    (o : RecoveryOutcome) : Stores w s (finishHost i o (finalOf i o t)) := by
  obtain ⟨es, htrace, hone, hstores⟩ := h
  refine ⟨.ended .host (kindOf i) (laneOperand i) o :: es, ?_, hone, hstores⟩
  rw [finishHost_trace, (finalOf_same i o t).trace, htrace, List.cons_append]

/-! ## One primitive -/

@[simp] theorem applyPre_trace (p : Pre) (s : State) : (applyPre p s).trace = s.trace := by
  cases p <;> rfl

@[simp] theorem applyPost_trace (p : Post) (s : State) : (applyPost p s).trace = s.trace := by
  cases p <;> rfl

/-- A primitive that is no write is a read or a Wait. -/
theorem read_or_wait_of_writtenWord {act : Act} {inv : Invocation} {s : State}
    (h : writtenWord act inv s = none) : (∃ a u, act = .read a u) ∨ ∃ t back, act = .wait t back := by
  cases act with
  | read a u => exact .inl ⟨a, u, rfl⟩
  | wait t back => exact .inr ⟨t, back, rfl⟩
  | write _ _ | writeVco _ _ | writeBack _ _ => cases h

/-- A primitive stores its written word: a write is its one event, and a read or a Wait, whose one
event is no write, stores nothing. -/
theorem perform_stores {op : MicroOp} {n : Nat} {inv : Invocation} {go : Continuation}
    {fail : State → State} {s : State} (hgo : ∀ p inv' u, (go p inv' u).trace = u.trace)
    (hfail : ∀ w u, Stores w s u → Stores w s (fail u)) :
    Stores (writtenWord op.act inv s) s (perform op n inv go fail s) := by
  cases hw : writtenWord op.act inv s with
  | some aw =>
    rw [perform_write hw]
    cases hr : nextReply s with
    | ok v => exact .of_event (e := .wr aw.1 aw.2) (by simp [hgo]) (by rw [hr]; rfl)
    | fail =>
      exact hfail _ _ (.of_event (e := .wrFail aw.1 aw.2) (by simp) (by rw [hr]; rfl))
  | none =>
    rcases read_or_wait_of_writtenWord hw with ⟨a, use, hact⟩ | ⟨t, back, hact⟩
    · rw [perform_read hact]
      cases nextReply s with
      | ok v =>
        obtain ⟨p, inv', u, huse, -, -, htrace, -⟩ :=
          useValue_shape use v n inv go (record (.rd a v) (drawReply (applyPre op.pre s)))
        exact .of_event (e := .rd a v) (by simp [huse, hgo, htrace]) rfl
      | fail => exact hfail _ _ (.of_event (e := .rdFail a) (by simp) rfl)
    · rw [perform_wait hact]
      exact .of_event (e := .wait t) (by simp [hgo]) rfl

/-! ## One step of a command -/

/-- A step of a command stores what `storeOf` says: its primitive's word, and nothing when its
procedure is over. -/
theorem hostAdvance_stores (i : Instr) (a d : Word) (inv : Invocation) (s : State) :
    Stores (storeOf i a d inv s) s
      (hostAdvance i (fun c a d => codeOf c a d i) (finalOf i) a d inv s) := by
  unfold storeOf hostAdvance
  cases inv.pos with
  | run n =>
    dsimp only
    cases (codeOf (cfgOf s) a d i)[n]? with
    | none => exact (Stores.refl s).finishHost i .success
    | some op =>
      exact perform_stores goTo_trace fun _ u h =>
        (h.of_trace_eq (setTransportFault_trace u)).finishHost i .transportError
  | returned o | retried o => exact (Stores.refl s).finishHost i o

/-- Settles O47: a step of a running command is one `hostAdvance`, and so is that of an accepted one
after its Begin event, which changes neither the configuration, the trim cache nor the answers. -/
theorem execStores : Obligations.ExecStores := by
  refine ⟨fun i a d inv s h => ?_, fun i a d s h => ?_⟩
  · obtain ⟨es, hes⟩ := hostAdvance_stores i a d inv s
    rw [nextReply_eq_replyAt] at hes
    exact ⟨_, es, exec_running h, hes⟩
  · obtain ⟨es, hes⟩ := hostAdvance_stores i a d (startOf i a d) (beginHost i s)
    rw [(beginHost_calm i s).2, nextReply_eq_replyAt] at hes
    exact ⟨_, es, exec_ready h, hes⟩

end Sys2Proof.Machine
end

section
/-! The encoding's statements (spec/30_encoding): the decoder and the encoder are inverse to each
other, the codes of the status words, and the host's program. -/

namespace Sys2Proof.Machine

/-! ## The codes of the operands -/

/-- A LANE code below 4 is that of one concrete lane (R102). -/
theorem laneOfCode_eq_some (l : Lane) :
    ∀ ln : BitVec 3, laneOfCode ln = some l ↔ ln = codeOfLane l := by
  cases l <;> decide

/-- A LANE code up to 4 is that of one LaneId (R102). -/
theorem laneIdOfCode_eq_some (L : LaneId) :
    ∀ ln : BitVec 3, laneIdOfCode ln = some L ↔ ln = codeOfLaneId L := by
  cases L with
  | lane l => cases l <;> decide
  | allLanes => decide

/-- A DOM code up to 2 is that of one domain (R103). -/
theorem domainOfCode_eq_some (d : ResetDomain) :
    ∀ dm : BitVec 3, domainOfCode dm = some d ↔ dm = codeOfDomain d := by
  cases d <;> decide

/-! ## The four forms of operands (R101) -/

/-- The three fields stand for the command: its opcode, its LANE code and its DOM code (R100). -/
def FieldsOf (opc : BitVec 8) (ln dm : BitVec 3) (i : Instr) : Prop :=
  opc = opcodeOf i ∧ ln = laneFieldOf i ∧ dm = domFieldOf i

section

variable {opc : BitVec 8} {ln dm : BitVec 3} {i : Instr}

/-- A command without operands takes LANE 000 and DOM 000. -/
theorem fieldsOf_of_plainCmd {j : Instr} (h : plainCmd j ln dm = .ok i)
    (hj : FieldsOf opc 0 0 j) : FieldsOf opc ln dm i := by
  unfold plainCmd at h
  split at h
  next => cases h
  next hln =>
    split at h
    next => cases h
    next hdm =>
      cases h
      rwa [not_not.mp hln, not_not.mp hdm]

/-- A command of a LaneId takes its code and DOM 000. -/
theorem fieldsOf_of_laneCmd {f : LaneId → Instr} (h : laneCmd f ln dm = .ok i)
    (hf : ∀ L, FieldsOf opc (codeOfLaneId L) 0 (f L)) : FieldsOf opc ln dm i := by
  unfold laneCmd at h
  split at h
  next => cases h
  next L hL =>
    split at h
    next => cases h
    next hdm =>
      cases h
      rw [(laneIdOfCode_eq_some L ln).mp hL, not_not.mp hdm]
      exact hf L

/-- TOGGLE_RESET takes the code of a LaneId and that of a domain. -/
theorem fieldsOf_of_toggleCmd (h : toggleCmd ln dm = .ok i) :
    FieldsOf 0x19#8 ln dm i := by
  unfold toggleCmd at h
  split at h
  next => cases h
  next L hL =>
    split at h
    next => cases h
    next d hd =>
      cases h
      exact ⟨rfl, (laneIdOfCode_eq_some L ln).mp hL, (domainOfCode_eq_some d dm).mp hd⟩

/-- TX_RESTART takes the code of a concrete lane and DOM 000. -/
theorem fieldsOf_of_txRestartCmd (h : txRestartCmd ln dm = .ok i) :
    FieldsOf 0x22#8 ln dm i := by
  unfold txRestartCmd at h
  split at h
  next => cases h
  next l hl =>
    split at h
    next => cases h
    next hdm =>
      cases h
      exact ⟨rfl, (laneOfCode_eq_some l ln).mp hl, not_not.mp hdm⟩

/-- A command of a LaneId decodes from its own operands. -/
theorem laneCmd_codeOfLaneId (f : LaneId → Instr) (L : LaneId) :
    laneCmd f (codeOfLaneId L) 0 = .ok (f L) := by
  simp [laneCmd, (laneIdOfCode_eq_some L _).mpr rfl]

theorem toggleCmd_codes (d : ResetDomain) (L : LaneId) :
    toggleCmd (codeOfLaneId L) (codeOfDomain d) = .ok (.toggleReset d L) := by
  simp [toggleCmd, (laneIdOfCode_eq_some L _).mpr rfl, (domainOfCode_eq_some d _).mpr rfl]

theorem txRestartCmd_codeOfLane (l : Lane) : txRestartCmd (codeOfLane l) 0 = .ok (.txRestart l) := by
  simp [txRestartCmd, (laneOfCode_eq_some l _).mpr rfl]

/-! ## The opcode map -/

/-- One row of the opcode map: its command answers, or a later row does. -/
theorem ok_of_ite {p : Prop} [Decidable p] {x y : Except Illegal Instr}
    (h : (if p then x else y) = .ok i) : p ∧ x = .ok i ∨ y = .ok i := by
  by_cases hp : p
  · exact .inl ⟨hp, by rwa [if_pos hp] at h⟩
  · exact .inr (by rwa [if_neg hp] at h)

/-- The opcode map answers only a command that the three fields stand for. -/
theorem fieldsOf_of_decodeOpc (h : decodeOpc opc ln dm = .ok i) : FieldsOf opc ln dm i := by
  unfold decodeOpc at h
  iterate 4
    rcases ok_of_ite h with ⟨hopc, h⟩ | h
    · exact fieldsOf_of_plainCmd h ⟨hopc, rfl, rfl⟩
  iterate 9
    rcases ok_of_ite h with ⟨hopc, h⟩ | h
    · exact fieldsOf_of_laneCmd h fun _ => ⟨hopc, rfl, rfl⟩
  rcases ok_of_ite h with ⟨hopc, h⟩ | h
  · exact hopc ▸ fieldsOf_of_toggleCmd h
  iterate 2
    rcases ok_of_ite h with ⟨hopc, h⟩ | h
    · exact fieldsOf_of_laneCmd h fun _ => ⟨hopc, rfl, rfl⟩
  rcases ok_of_ite h with ⟨hopc, h⟩ | h
  · exact hopc ▸ fieldsOf_of_txRestartCmd h
  rcases ok_of_ite h with ⟨hopc, h⟩ | h
  · exact fieldsOf_of_laneCmd h fun _ => ⟨hopc, rfl, rfl⟩
  · cases h

end

/-- A command decodes from its own three fields. -/
theorem decodeOpc_fields (i : Instr) :
    decodeOpc (opcodeOf i) (laneFieldOf i) (domFieldOf i) = .ok i := by
  cases i with
  | probe | detach | regRead | regWrite => rfl
  | toggleReset d L => exact toggleCmd_codes d L
  | txRestart l => exact txRestartCmd_codeOfLane l
  | _ L => exact laneCmd_codeOfLaneId _ L

/-! ## Words -/

/-- A word is made of its four fields (R100). -/
theorem eq_packFields {w : Word} (h : fieldRsv w = 0) :
    w = packFields (fieldOpc w) (fieldLane w) (fieldDom w) := by
  apply BitVec.eq_of_getLsbD_eq
  intro k hk
  have hrsv : k < 2 → w.getLsbD k = false := by
    intro h2
    have := congrArg (·.getLsbD k) h
    simpa [fieldRsv, h2] using this
  simp only [packFields, fieldOpc, fieldLane, fieldDom, BitVec.getLsbD_append,
    BitVec.getLsbD_extractLsb']
  split_ifs with h2 h5 h8
  · simp [hrsv h2]
  · simp [h5, show 2 + (k - 2) = k by omega]
  · simp [h8, show 5 + (k - 2 - 3) = k by omega]
  · simp [show k - 2 - 3 - 3 < 8 by omega, show 8 + (k - 2 - 3 - 3) = k by omega]

/-- A word that decodes has RSV 00 (R104), and its other fields stand for the command. -/
theorem fields_of_decode {w : Word} {i : Instr} (h : decode w = .ok i) :
    fieldRsv w = 0 ∧ FieldsOf (fieldOpc w) (fieldLane w) (fieldDom w) i := by
  unfold decode at h
  split at h
  next => cases h
  next hrsv => exact ⟨not_not.mp hrsv, fieldsOf_of_decodeOpc h⟩

/-- Every command decodes from its own word, with every operand kept (R111). -/
theorem decode_encode (i : Instr) : decode (encode i) = .ok i := by
  obtain ⟨hopc, hlane, hdom, hrsv⟩ := Laws.encode_fields i
  rw [decode, hopc, hlane, hdom, hrsv, if_neg (not_not.mpr rfl), decodeOpc_fields]

/-- Settles O1: a word that decodes has the four fields of the command's own word, of which it is
made; and every command decodes from its own word. -/
theorem decodeExact : Obligations.DecodeExact := by
  intro w i
  constructor
  · intro h
    obtain ⟨hrsv, hopc, hlane, hdom⟩ := fields_of_decode h
    rw [encode, ← hopc, ← hlane, ← hdom]
    exact eq_packFields hrsv
  · rintro rfl
    exact decode_encode i

/-- Settles O2: each of the words is the encoding of its command, so it decodes to it. -/
theorem decodeWords : Obligations.DecodeWords := by
  have hword : ∀ {w i}, w = encode i → decode w = .ok i := fun h => (decodeExact _ _).mpr h
  exact ⟨hword rfl, hword rfl, hword rfl, hword rfl, hword rfl, hword rfl, hword rfl, hword rfl,
    hword rfl, hword rfl, hword rfl⟩

/-- Settles O3: a word that decodes has RSV 00. -/
theorem reservedBitsIllegal : Obligations.ReservedBitsIllegal :=
  fun _ hw _ h => hw (fields_of_decode h).1

/-! ## The codes of the status words -/

/-- The outcome codes stop at 9, so none is the 0xF of an outcome field without an outcome (R108). -/
theorem outcomeCode_le (o : RecoveryOutcome) : (outcomeCode o).toNat ≤ 9 := by
  cases o <;> decide

/-- Settles O24: each list of codes is the table of its rule, evaluated. -/
theorem outcomeCodes : Obligations.OutcomeCodes :=
  ⟨rfl, fun o => ⟨rfl, outcomeCode_le o⟩, rfl, rfl, rfl, rfl, rfl, rfl⟩

/-! ## The host's program -/

/-- A step whose move is the host program's. -/
theorem step_hostProgram {s : State} (h : nextMove s = .hostProgram) :
    step s = .next (hostProgramStep (takeTurn s)) := by
  rw [step, h]
  rfl

/-- WAIT_DONE records STATUS, and the program goes on when the request is done (R112). -/
theorem hostProgramStep_waitDone {rest : List HostPrim} {s : State}
    (h : s.hostProg = .waitDone :: rest) :
    (hostProgramStep s).trace = .hostRd 0x5 (statusWord s) :: s.trace ∧
      (hostProgramStep s).hostProg = if s.busy = false ∧ s.doneFlag = true then rest
        else .waitDone :: rest := by
  simp only [hostProgramStep, h]
  by_cases hd : s.busy = false ∧ s.doneFlag = true
  · rw [if_pos hd, if_pos (by simp [requestDone, hd])]
    exact ⟨rfl, rfl⟩
  · rw [if_neg hd, if_neg (by simpa [requestDone] using hd)]
    exact ⟨rfl, h⟩

/-- Settles O28: the step takes the first primitive of the program, of each form in turn. -/
theorem hostProgramSteps : Obligations.HostProgramSteps := by
  intro p rest s hm hp
  have hprog : (takeTurn s).hostProg = p :: rest := hp
  rw [step_hostProgram hm]
  refine ⟨?_, ?_, ?_⟩
  · rintro off v rfl
    simp only [hostProgramStep, hprog]
  · rintro off rfl
    simp only [hostProgramStep, hprog]
  · rintro rfl
    exact ⟨_, rfl, hostProgramStep_waitDone hprog⟩

end Sys2Proof.Machine
end

section
/-! The meaning of every command against the spec's pseudocode (spec/00_scope R16, spec/30_encoding
R101): a procedure's code goes from primitive to primitive as the pseudocode goes from statement to
statement, whatever the PHY answers and whoever runs the procedure. -/

namespace Sys2Proof.Machine

open Reference

/-! ## A procedure's way through its code -/

/-- Performing the primitive leads to the position `p` with the local variables of `inv'` in `t`,
whatever its caller makes of it. -/
def GoesTo (op : MicroOp) (n : Nat) (inv : Invocation) (s : State) (p : Position)
    (inv' : Invocation) (t : State) : Prop :=
  ∀ go fail, perform op n inv go fail s = go p inv' t

/-- Performing the primitive fails in `t`, whatever its caller makes of it. -/
def FailsIn (op : MicroOp) (n : Nat) (inv : Invocation) (s t : State) : Prop :=
  ∀ go fail, perform op n inv go fail s = fail t

/-- One primitive of the code is performed, and the procedure goes on from the next position. -/
inductive Advances (code : List MicroOp) : Invocation × State → Invocation × State → Prop where
  | goes {n : Nat} {op : MicroOp} {p : Position} {inv inv' : Invocation} {s t : State}
      (hpos : inv.pos = .run n) (hop : code[n]? = some op) (hgoes : GoesTo op n inv s p inv' t) :
      Advances code (inv, s) ({ inv' with pos := p }, t)

/-- Any number of primitives. -/
abbrev Walks (code : List MicroOp) : Invocation × State → Invocation × State → Prop :=
  Relation.ReflTransGen (Advances code)

/-- The procedure ends with a failing outcome, which it has returned or which its next primitive's
failed transaction raises (R333). -/
inductive Fails (code : List MicroOp) : Invocation × State → RecoveryOutcome → State → Prop where
  | returned {inv : Invocation} {s : State} {o : RecoveryOutcome} (hpos : inv.pos = .returned o) :
      Fails code (inv, s) o s
  | transport {n : Nat} {op : MicroOp} {inv : Invocation} {s t : State} (hpos : inv.pos = .run n)
      (hop : code[n]? = some op) (hfails : FailsIn op n inv s t) :
      Fails code (inv, s) .transportError (setTransportFault t)

/-- What is said of the local variables `v` and `allDone` of an invocation (R43). -/
abbrev Locals := Word → Bool → Prop

/-- Nothing is said of them. -/
def anyLocals : Locals := fun _ _ => True

/-- From `x` the code comes to the result and state of a piece of pseudocode: to the index `m` with
local variables as `Q` says for the value returned, or to an end with the piece's outcome. -/
def Reaches {α : Type} (code : List MicroOp) (x : Invocation × State) (m : Nat) (Q : α → Locals) :
    Except RecoveryOutcome α → State → Prop
  | .ok a, t => ∃ inv, Walks code x (inv, t) ∧ inv.pos = .run m ∧ Q a inv.v inv.allDone
  | .error o, t => ∃ y, Walks code x y ∧ Fails code y o t

/-- From index `n` on the code does what `p` does, and comes to index `m` where `p` returns. -/
def Runs {α : Type} (code : List MicroOp) (c : Cfg) (n : Nat) (P : Locals) (p : Piece α) (m : Nat)
    (Q : α → Locals) : Prop :=
  ∀ inv s r t, inv.pos = .run n → P inv.v inv.allDone → cfgOf s = c → p s = some (r, t) →
    Reaches code (inv, s) m Q r t

/-- The primitives `ops` stand in the code from index `n` on. -/
def Stands (ops code : List MicroOp) (n : Nat) : Prop := ∃ rest, code.drop n = ops ++ rest

/-- Wherever they stand, the primitives `ops` do what `p` does. -/
def Follows {α : Type} (c : Cfg) (P : Locals) (ops : List MicroOp) (p : Piece α) (Q : α → Locals) :
    Prop :=
  ∀ code n, Stands ops code n → Runs code c n P p (n + ops.length) Q

/-- The primitives `ops` do what `p` does whatever label they begin with (R262). -/
def Labelled {α : Type} (c : Cfg) (P : Locals) (ops : List MicroOp) (p : Piece α)
    (Q : α → Locals) : Prop :=
  ∀ l, Follows c P (withPre l ops) (fun s => p (applyPre l s)) Q

theorem Stands.append {xs ys code : List MicroOp} {n : Nat} (h : Stands (xs ++ ys) code n) :
    Stands xs code n ∧ Stands ys code (n + xs.length) := by
  obtain ⟨rest, h⟩ := h
  refine ⟨⟨ys ++ rest, by rw [h, List.append_assoc]⟩, rest, ?_⟩
  rw [← List.drop_drop, h, List.append_assoc, List.drop_left]

theorem Stands.head {op : MicroOp} {ops code : List MicroOp} {n : Nat}
    (h : Stands (op :: ops) code n) : code[n]? = some op := by
  obtain ⟨rest, h⟩ := h
  have h0 := congrArg (·[0]?) h
  simpa using h0

theorem Stands.self (code : List MicroOp) : Stands code code 0 := ⟨[], by simp⟩

/-- A primitive keeps the configuration and the invocation's command. -/
theorem Advances.kept {code : List MicroOp} {x y : Invocation × State} (h : Advances code x y) :
    cfgOf y.2 = cfgOf x.2 ∧ y.1.proc = x.1.proc := by
  obtain @⟨n, op, p, inv, inv', s, t, -, -, hgoes⟩ := h
  rcases perform_shape op n inv goTo release s with
    ⟨_, p', inv'', u, heq, hproc, -, -, -, -, hkept, -⟩ | ⟨_, heq, -⟩
  · have hsame := (hgoes goTo release).symm.trans heq
    have hinv := congrArg State.inv hsame
    have hconf := congrArg State.conf hsame
    simp only [goTo_inv, Option.some.injEq, Invocation.mk.injEq] at hinv
    obtain ⟨hp, -⟩ := hinv
    simp only [goTo_conf] at hconf
    exact ⟨congrArg WfCfg.cfg (hconf.trans hkept.conf), hp.trans hproc⟩
  · have hinv := congrArg State.inv ((hgoes goTo release).symm.trans heq)
    simp at hinv

theorem Walks.kept {code : List MicroOp} {x y : Invocation × State} (h : Walks code x y) :
    cfgOf y.2 = cfgOf x.2 ∧ y.1.proc = x.1.proc := by
  induction h with
  | refl => exact ⟨rfl, rfl⟩
  | tail _ h ih => exact ⟨h.kept.1.trans ih.1, h.kept.2.trans ih.2⟩

section

variable {α β : Type} {code : List MicroOp} {c : Cfg} {n k m : Nat} {P : Locals} {Q : α → Locals}
  {R : β → Locals} {p : Piece α} {f : α → Piece β} {xs ys : List MicroOp}

theorem Reaches.of_walks {x y : Invocation × State} {r : Except RecoveryOutcome α} {t : State}
    (h : Walks code x y) (hy : Reaches code y m Q r t) : Reaches code x m Q r t := by
  cases r with
  | ok a =>
    obtain ⟨inv, hw, hend⟩ := hy
    exact ⟨inv, h.trans hw, hend⟩
  | error o =>
    obtain ⟨z, hw, hend⟩ := hy
    exact ⟨z, h.trans hw, hend⟩

/-- One piece after another. -/
theorem Runs.andThen (hp : Runs code c n P p k Q) (hf : ∀ a, Runs code c k (Q a) (f a) m R) :
    Runs code c n P (andThen p f) m R := by
  intro inv s r t hpos hP hc h
  unfold Reference.andThen at h
  split at h
  next => cases h
  next o u hps =>
    cases h
    exact hp inv s _ _ hpos hP hc hps
  next a u hps =>
    obtain ⟨inv', hw, hpos', hQ⟩ := hp inv s _ _ hpos hP hc hps
    exact .of_walks hw (hf a inv' u r t hpos' hQ (hw.kept.1.trans hc) h)

theorem Follows.andThen (hp : Follows c P xs p Q) (hf : ∀ a, Follows c (Q a) ys (f a) R) :
    Follows c P (xs ++ ys) (andThen p f) R := by
  intro code n h
  obtain ⟨hx, hy⟩ := h.append
  have hlen : n + (xs ++ ys).length = n + xs.length + ys.length := by
    rw [List.length_append, Nat.add_assoc]
  exact hlen ▸ (hp code n hx).andThen fun a => hf a code _ hy

theorem withPre_append (l : Pre) (hx : xs ≠ []) : withPre l (xs ++ ys) = withPre l xs ++ ys := by
  cases xs with
  | nil => exact absurd rfl hx
  | cons op ops => rfl

/-- A label before a piece stands before its first part. -/
theorem Labelled.andThen (hx : xs ≠ []) (hp : Labelled c P xs p Q)
    (hf : ∀ a, Follows c (Q a) ys (f a) R) : Labelled c P (xs ++ ys) (andThen p f) R := by
  intro l
  rw [withPre_append l hx]
  exact (hp l).andThen hf

theorem withPre_nothing (h : Plain xs) : withPre .nothing xs = xs := by
  cases xs with
  | nil => rfl
  | cons op ops =>
    have hop : { op with pre := .nothing } = op := by rw [← h op (List.mem_cons_self ..)]
    rw [withPre, hop]

/-- Without a label. -/
theorem Labelled.follows (h : Labelled c P xs p Q) (hx : Plain xs) :
    Follows c P xs p Q := withPre_nothing hx ▸ h .nothing

theorem follows_value (a : α) : Follows c (Q a) [] (value a) Q := by
  intro code n _ inv s r t hpos hQ _ h
  cases h
  exact ⟨inv, .refl, hpos, hQ⟩

end

/-! ## Pieces of pseudocode -/

section

variable {α β γ : Type}

theorem andThen_value (p : Piece α) : andThen p value = p := by
  funext s
  unfold andThen
  split <;> simp_all [value]

theorem andThen_andThen (p : Piece α) (f : α → Piece β) (g : β → Piece γ) :
    andThen (andThen p f) g = andThen p fun a => andThen (f a) g := by
  funext s
  simp only [andThen]
  cases p s with
  | none => rfl
  | some x =>
    obtain ⟨r, t⟩ := x
    cases r <;> rfl

end

/-! ## Reads -/

section

variable {α : Type} {code : List MicroOp} {c : Cfg} {n m : Nat} {P : Locals} {Q : α → Locals}
  {l : Pre} {a : Word} {u : Use} {f : Word → Piece α} {inv : Invocation} {s t : State}
  {r : Except RecoveryOutcome α}

/-- A read and what the pseudocode does with the value: where the PHY supplies one, its use decides
how the code goes on. -/
theorem reaches_read (hpos : inv.pos = .run n)
    (hop : code[n]? = some { pre := l, act := .read a u })
    (h : andThen (read a) f (applyPre l s) = some (r, t))
    (hok : ∀ v s', s'.conf = s.conf → f v s' = some (r, t) → ∃ p inv' t',
      (∀ go, useValue u v n inv go s' = go p inv' t') ∧
        Reaches code ({ inv' with pos := p }, t') m Q r t) :
    Reaches code (inv, s) m Q r t := by
  simp only [andThen, Reference.read, memRead, nextReply_applyPre] at h
  have hperform := fun go fail => perform_read (n := n) (inv := inv) (go := go) (fail := fail)
    (s := s) (show MicroOp.act { pre := l, act := .read a u } = .read a u from rfl)
  cases hr : nextReply s with
  | ok v =>
    simp only [hr] at h hperform
    obtain ⟨p, inv', t', huse, hreaches⟩ :=
      hok v (record (.rd a v) (drawReply (applyPre l s))) (kept_applyPre l s).conf h
    exact .of_walks (.single (.goes hpos hop fun go fail => (hperform go fail).trans (huse go)))
      hreaches
  | fail =>
    simp only [hr] at h hperform
    cases h
    exact ⟨_, .refl, .transport hpos hop hperform⟩

/-- Where the use of a value leads at index `n`: to the next index, or to a failing outcome. -/
def Lands (n : Nat) (Q : α → Locals) (p : Position) (inv : Invocation) :
    Except RecoveryOutcome α → Prop
  | .ok a => p = .run (n + 1) ∧ Q a inv.v inv.allDone
  | .error o => p = .returned o

/-- A read whose use leads to the next primitive or out of the procedure. -/
theorem labelled_read
    (h : ∀ v n inv s r t, P inv.v inv.allDone → cfgOf s = c → f v s = some (r, t) →
      ∃ p inv', (∀ go, useValue u v n inv go s = go p inv' t) ∧ Lands n Q p inv' r) :
    Labelled c P [opOf (.read a u)] (andThen (read a) f) Q := by
  intro l code n hs inv s r t hpos hP hc hrun
  refine reaches_read hpos hs.head hrun fun v s' hconf hf => ?_
  obtain ⟨p, inv', huse, hlands⟩ := h v n inv s' r t hP ((congrArg WfCfg.cfg hconf).trans hc) hf
  refine ⟨p, inv', t, huse, ?_⟩
  cases r with
  | ok b =>
    obtain ⟨hp, hQ⟩ := hlands
    exact ⟨_, .refl, hp, hQ⟩
  | error o => exact ⟨_, .refl, .returned hlands⟩

/-- A read whose value is kept in the local variable `v`. -/
theorem labelled_keep : Labelled c P [opOf (.read a .keep)] (read a) fun w v _ => v = w := by
  rw [← andThen_value (read a)]
  refine labelled_read fun v n inv s r t _ _ h => ?_
  cases h
  exact ⟨_, _, fun _ => rfl, rfl, rfl⟩

/-- A read whose value is discarded. -/
theorem labelled_discard : Labelled c P [opOf (.read a .discard)] (read a) fun _ => P := by
  rw [← andThen_value (read a)]
  refine labelled_read fun v n inv s r t hP _ h => ?_
  cases h
  exact ⟨_, _, fun _ => rfl, rfl, hP⟩

end

/-! ## Writes and Waits -/

section

variable {c : Cfg} {P : Locals} {a : Word} {act : Act}

/-- A write of the word `w`, which the cache and the local variables determine, and the updates that
follow it. -/
theorem labelled_writePost {post : Post} {w : VcoTable → Word}
    (hw : ∀ inv s, P inv.v inv.allDone → writtenWord act inv s = some (a, w s.vco)) :
    Labelled c P [{ act := act, post := post }]
      (andThen (fun s => write a (w s.vco) s) fun _ => assign (applyPost post)) fun _ => P := by
  intro l code n hs inv s r t hpos hP hc hrun
  have hperform := fun go fail => perform_write (op := ⟨l, act, post⟩) (n := n) (go := go)
    (fail := fail) (hw inv s hP)
  simp only [andThen, Reference.write, memWrite, nextReply_applyPre, applyPre_vco] at hrun
  cases hr : nextReply s with
  | ok v =>
    simp only [hr] at hrun hperform
    cases hrun
    exact ⟨_, .single (.goes hpos hs.head hperform), rfl, hP⟩
  | fail =>
    simp only [hr] at hrun hperform
    cases hrun
    exact ⟨_, .refl, .transport hpos hs.head hperform⟩

/-- A write of the word `w` that nothing follows. -/
theorem labelled_writeWord {w : VcoTable → Word}
    (hw : ∀ inv s, P inv.v inv.allDone → writtenWord act inv s = some (a, w s.vco)) :
    Labelled c P [opOf act] (fun s => write a (w s.vco) s) fun _ => P := by
  rw [← andThen_value fun s => write a (w s.vco) s]
  exact labelled_writePost (post := .nothing) hw

/-- A write of a fixed word. -/
theorem labelled_write (w : Word) :
    Labelled c P [opOf (.write a w)] (write a w) fun _ => P :=
  labelled_writeWord (w := fun _ => w) fun _ _ _ => rfl

/-- A write of what was last read, changed. -/
theorem labelled_writeBack (g : Back) (w : Word) :
    Labelled c (fun v _ => v = w) [opOf (.writeBack a g)] (write a (backValue g w))
      fun _ v _ => v = w := by
  refine labelled_writeWord (w := fun _ => backValue g w) ?_
  rintro inv s rfl
  rfl

/-- A Wait, which is no primitive where its length is 0 (R12). -/
theorem follows_wait (d : Delay) : Follows c P (waitOps c d) (wait d) fun _ => P := by
  intro code n hs inv s r t hpos hP hc h
  subst hc
  unfold waitOps at hs ⊢
  simp only [wait, Option.some.injEq, Prod.mk.injEq] at h
  obtain ⟨rfl, rfl⟩ := h
  split at hs
  next h0 => exact ⟨_, by rw [if_pos h0], by simpa [h0] using hpos, hP⟩
  next h0 =>
    rw [if_neg h0, if_neg h0]
    exact ⟨_, .single (.goes hpos hs.head fun _ _ => perform_wait rfl), rfl, hP⟩

end

/-! ## Loops over lanes and targets -/

section

variable {α β : Type} {c : Cfg} {P : Locals} {xs : List MicroOp} {p : Piece β} {Q : β → Locals}

/-- What is left in the local variables does not matter. -/
theorem Follows.forget (h : Follows c P xs p Q) : Follows c P xs p fun _ => anyLocals := by
  intro code n hs inv s r t hpos hP hc hrun
  have hreaches := h code n hs inv s r t hpos hP hc hrun
  cases r with
  | ok b =>
    obtain ⟨inv', hw, hpos', -⟩ := hreaches
    exact ⟨inv', hw, hpos', trivial⟩
  | error o => exact hreaches

variable {ops : α → List MicroOp} {f : α → Piece Unit}

/-- A loop whose body's primitives stand once for each element. -/
theorem follows_forEach (h : ∀ x, Follows c P (ops x) (f x) fun _ => P) :
    ∀ l : List α, Follows c P (l.flatMap ops) (forEach l f) fun _ => P
  | [] => follows_value (Q := fun _ => P) ()
  | x :: l => by
    rw [List.flatMap_cons, forEach]
    exact (h x).andThen fun _ => follows_forEach h l

/-- A loop that is not empty, with a label before it. -/
theorem labelled_forEach (hne : ∀ x, ops x ≠ []) (hplain : ∀ x, Plain (ops x))
    (h : ∀ x, Labelled c P (ops x) (f x) fun _ => P) {l : List α} (hl : l ≠ []) :
    Labelled c P (l.flatMap ops) (forEach l f) fun _ => P := by
  cases l with
  | nil => exact absurd rfl hl
  | cons x l =>
    rw [List.flatMap_cons, forEach]
    exact (h x).andThen (hne x) fun _ => follows_forEach (fun y => (h y).follows (hplain y)) l

/-- A loop with one primitive for each element. -/
theorem labelled_forEach_map {g : α → Act}
    (h : ∀ x, Labelled c P [opOf (g x)] (f x) fun _ => P) {l : List α} (hl : l ≠ []) :
    Labelled c P (l.map fun x => opOf (g x)) (forEach l f) fun _ => P := by
  rw [List.map_eq_flatMap]
  exact labelled_forEach (by simp) (fun x => .single rfl) h hl

end

/-! ## The Reset Controller (R172, R173, R183) -/

section

variable {c : Cfg} {d : Domain} {L : LaneId}

theorem lanes_ne_nil (L : LaneId) : lanes L ≠ [] := by cases L <;> simp [lanes]

theorem targets_ne_nil : targets c d L ≠ [] := by
  unfold targets
  split
  · simp
  · split <;> simp

/-- A read-modify-write. -/
theorem labelled_rmw {a : Word} (g : Back) :
    Labelled c anyLocals [opOf (.read a .keep), opOf (.writeBack a g)]
      (andThen (read a) fun v => write a (backValue g v)) fun _ => anyLocals :=
  Labelled.andThen (xs := [_]) (by simp) labelled_keep fun v =>
    ((labelled_writeBack g v).follows (.single rfl)).forget

theorem labelled_assertSeq : Labelled c anyLocals (assertSeq c d L) (assertBits c d L)
    fun _ => anyLocals :=
  labelled_forEach (by simp) (fun _ => .cons rfl (.single rfl))
    (fun t => labelled_rmw (.setBits t.2)) targets_ne_nil

theorem labelled_deassertSeq : Labelled c anyLocals (deassertSeq c d L) (deassertBits c d L)
    fun _ => anyLocals :=
  labelled_forEach (by simp) (fun _ => .cons rfl (.single rfl))
    (fun t => labelled_rmw (.clearBits t.2)) targets_ne_nil

theorem follows_assertSeq : Follows c anyLocals (assertSeq c d L) (assertBits c d L)
    fun _ => anyLocals := labelled_assertSeq.follows (plain_assert c d L)

theorem follows_deassertSeq : Follows c anyLocals (deassertSeq c d L) (deassertBits c d L)
    fun _ => anyLocals := labelled_deassertSeq.follows (plain_deassert c d L)

/-- The value read is kept in `v` up to the last write, which writes it back. -/
theorem follows_toggleSeq : Follows c anyLocals (toggleSeq c d L) (toggle c d L)
    fun _ => anyLocals := by
  refine follows_forEach (fun t => ?_) _
  rw [List.append_assoc]
  exact Follows.andThen (xs := [_]) (labelled_keep.follows (.single rfl)) fun v0 =>
    Follows.andThen (xs := [_])
      ((labelled_writeBack (.setBits t.2) v0).follows (.single rfl)) fun _ =>
      (follows_wait .tToggle).andThen fun _ =>
        ((labelled_writeBack .same v0).follows (.single rfl)).forget

end

/-! ## The Frequency Acquisition & PLL Lock Stage (R230 to R237) -/

section

variable {c : Cfg} {L : LaneId}

theorem follows_txRestartSeq {l : Lane} : Follows c anyLocals (txRestartSeq c l) (txRestart c l)
    fun _ => anyLocals := by
  simp only [txRestartSeq, List.append_assoc]
  exact follows_assertSeq.andThen fun _ => follows_assertSeq.andThen fun _ =>
    follows_deassertSeq.andThen fun _ => (follows_wait .tTxRestart).andThen fun _ =>
      follows_deassertSeq

theorem follows_pllRestart : Follows c anyLocals (pllRestart c L) (restartPll c L)
    fun _ => anyLocals := by
  cases L with
  | lane l => exact follows_txRestartSeq
  | allLanes => exact follows_assertSeq.andThen fun _ => follows_deassertSeq

/-- One write for each lane. -/
theorem labelled_lanes {a : Lane → Word} (w : Word) :
    Labelled c anyLocals ((lanes L).map fun l => opOf (.write (a l) w))
      (forEach (lanes L) fun l => write (a l) w) fun _ => anyLocals :=
  labelled_forEach_map (fun _ => labelled_write w) (lanes_ne_nil L)

theorem labelled_faSeq : Labelled c anyLocals (faSeq c L) (acquire c L)
    fun _ => anyLocals := by
  simp only [faSeq, List.append_assoc]
  exact (labelled_lanes _).andThen (by simp [lanes_ne_nil]) fun _ =>
    ((labelled_lanes _).follows .map).andThen fun _ =>
      (follows_wait .tFaShort).andThen fun _ => ((labelled_lanes _).follows .map).andThen fun _ =>
        (follows_wait .tFaLong).andThen fun _ => (labelled_lanes _).follows .map

theorem labelled_acqCode : Labelled c anyLocals (acqCode c L) (acq c L) fun _ => anyLocals :=
  labelled_faSeq.andThen (by simp [faSeq, lanes_ne_nil]) fun _ => follows_pllRestart

/-- One read of the lock bit. -/
theorem labelled_lockTest {a : Word} {k : Nat} : Labelled c anyLocals
    [opOf (.read a (.lockTest k))]
    (andThen (read a) fun v => if test v k then value () else giveUp .txPllNotLocked)
    fun _ => anyLocals := by
  refine labelled_read fun v n inv s r t _ _ h => ?_
  by_cases hv : test v k = true
  · simp only [hv, if_true] at h
    cases h
    exact ⟨_, _, fun _ => rfl, if_pos hv, trivial⟩
  · simp only [hv] at h
    cases h
    exact ⟨_, _, fun _ => rfl, if_neg hv⟩

theorem labelled_lockTestSeq : Labelled c anyLocals (lockTestSeq c L) (testLock c L)
    fun _ => anyLocals := by
  cases L with
  | lane l | allLanes => exact labelled_lockTest

theorem follows_vcoUpdateSeq : Follows c anyLocals (vcoUpdateSeq c L) (updateTrim c L)
    fun _ => anyLocals := by
  refine (labelled_forEach_map (fun l => ?_) (lanes_ne_nil L)).follows .map
  refine labelled_read fun v n inv s r t _ hc h => ?_
  subst hc
  cases h
  exact ⟨_, _, fun _ => rfl, rfl, trivial⟩

theorem follows_txEnableSeq : Follows c anyLocals (txEnableSeq c L) (enableTx c L)
    fun _ => anyLocals := by
  cases L with
  | lane l =>
    show Follows c _ _ (andThen (deassertBits c .txcoreRst (.lane l)) value) _
    rw [andThen_value]
    exact follows_deassertSeq
  | allLanes =>
    exact follows_deassertSeq.andThen fun _ =>
      (labelled_rmw (.clearBits (bit c.bTxen))).follows (.cons rfl (.single rfl))

theorem follows_fifoFlushSeq : Follows c anyLocals (fifoFlushSeq c) (flushFifo c)
    fun _ => anyLocals :=
  Follows.andThen (xs := [_]) ((labelled_write _).follows (.single rfl)) fun _ =>
    Follows.andThen (xs := [_]) ((labelled_write _).follows (.single rfl)) fun _ =>
      Follows.andThen (xs := [_]) (labelled_discard.follows (.single rfl)) fun _ =>
        Follows.andThen (xs := [_]) (ys := []) (labelled_discard.follows (.single rfl)) fun _ =>
          follows_value (Q := fun _ => anyLocals) ()

theorem labelled_lockCode : Labelled c anyLocals (lockCode c L) (Reference.lock c L)
    fun _ => anyLocals := by
  simp only [lockCode, List.append_assoc]
  exact labelled_lockTestSeq.andThen (by cases L <;> simp [lockTestSeq]) fun _ =>
    follows_vcoUpdateSeq.andThen fun _ => follows_txEnableSeq.andThen fun _ => follows_fifoFlushSeq

theorem follows_fpCode : Follows c anyLocals (fpCode c L) (freqPll c L) fun _ => anyLocals :=
  (labelled_acqCode.follows (plain_acq c L)).andThen fun _ =>
    labelled_lockCode.follows (plain_lock c L)

end

/-! ## The polls (R202, R264) -/

section

variable {code : List MicroOp} {c : Cfg} {n : Nat}

/-- A Wait that leads back, or on. -/
theorem walks_wait {d : Delay} {back : Nat} {post : Post} {inv : Invocation} {s : State}
    (hpos : inv.pos = .run n) (hop : code[n]? = some { act := .wait d back, post := post }) :
    Walks code (inv, s)
      ({ inv with pos := .run (n + 1 - back) }, applyPost post (waitFor d s)) :=
  .single (.goes hpos hop fun _ _ => perform_wait rfl)

/-- What follows the reads of an attempt in the pseudocode: the poll is over, or is done `again`. -/
def orAgain (again : Piece Unit) (done : Bool) : Piece Unit :=
  if done then value ()
  else fun s => if s.azCount = 64 then giveUp .autoZeroTimeout s else again s

/-- The pseudocode's poll of an auto-zero stage, once an attempt has been counted (R202). -/
def pollOn (c : Cfg) (L : LaneId) : Nat → Piece Unit
  | 0 => fun _ => none
  | fuel + 1 =>
    andThen (attempt c true (lanes L)) (orAgain (andThen (wait .tAzPoll) fun _ => poll c L fuel))

theorem poll_eq (c : Cfg) (L : LaneId) (fuel : Nat) :
    poll c L fuel = andThen (assign nextAttempt) fun _ => pollOn c L fuel := by
  cases fuel <;> rfl

/-- The reads of an attempt, up to what its last read decides (`azNext`). -/
theorem runs_attempt {onDone back m : Nat} {K : Bool → Piece Unit} {ls : List Lane} {e : Nat}
    (hls : ls ≠ []) (he : e + 1 = n + ls.length) {first done : Bool}
    (hs : Stands (azReads c onDone back first ls) code n)
    (hK : ∀ done inv s r t, inv.pos = (azNext done onDone back e s).1 → cfgOf s = c →
      K done s = some (r, t) →
      Reaches code (inv, (azNext done onDone back e s).2) m (fun _ => anyLocals) r t) :
    Runs code c n (fun _ d => (first || d) = done) (andThen (attempt c done ls) K) m
      fun _ => anyLocals := by
  induction ls generalizing n first done with
  | nil => exact absurd rfl hls
  | cons l ls ih =>
    rw [attempt, andThen_andThen]
    cases ls with
    | nil =>
      obtain rfl : e = n := by simpa using he
      intro inv s r t hpos hdone hc hrun
      refine reaches_read hpos hs.head hrun fun v s' hconf h => ?_
      refine ⟨_, _, _, fun _ => rfl, ?_⟩
      rw [hdone]
      exact hK _ _ s' r t rfl ((congrArg WfCfg.cfg hconf).trans hc) h
    | cons l' ls =>
      obtain ⟨hhead, htail⟩ := hs.append (xs := [_])
      have hread : Labelled c (fun _ d => (first || d) = done)
          [opOf (.read (addrOf (rxMain c) l) (.azPoll first))] (read (addrOf (rxMain c) l))
          fun v _ d => (false || d) = (done && test v 2) := by
        rw [← andThen_value (read _)]
        refine labelled_read fun v n inv s r t hdone _ h => ?_
        cases h
        exact ⟨_, _, fun _ => rfl, rfl, by rw [← hdone]; rfl⟩
      exact (hread.follows (.single rfl) code n hhead).andThen fun v =>
        ih (by simp) (by simp only [List.length_cons, List.length_nil] at he ⊢; omega) htail

/-- After the last read of an attempt, at index `e`, the code is past the poll, or ends with the
timeout, or goes on to the next attempt. -/
theorem reaches_azNext {e onDone back : Nat} {again : Piece Unit} {done : Bool} {inv : Invocation}
    {s t : State} {r : Except RecoveryOutcome Unit}
    (hpos : inv.pos = (azNext done onDone back e s).1) (h : orAgain again done s = some (r, t))
    (hagain : again s = some (r, t) → inv.pos = .run (e + 1 - back) →
      Reaches code (inv, if back = 0 then s else nextAttempt s) (e + onDone) (fun _ => anyLocals)
        r t) :
    Reaches code (inv, (azNext done onDone back e s).2) (e + onDone) (fun _ => anyLocals) r t := by
  unfold azNext at hpos ⊢
  cases done with
  | true =>
    cases h
    exact ⟨inv, .refl, hpos, trivial⟩
  | false =>
    by_cases hmax : s.azCount = Config.azMaxAttempts
    · simp only [orAgain, Bool.false_eq_true, if_false, if_pos (show s.azCount = 64 from hmax)] at h
      cases h
      simp only [hmax, if_true] at hpos ⊢
      exact ⟨_, .refl, .returned hpos⟩
    · simp only [orAgain, Bool.false_eq_true, if_false,
        if_neg (show ¬ s.azCount = 64 from hmax)] at h
      by_cases hback : back = 0
      · subst hback
        simp only [hmax, if_false, if_true] at hpos hagain ⊢
        exact hagain h hpos
      · simp only [hmax, hback, if_false] at hpos hagain ⊢
        exact hagain h hpos

/-- The poll of an auto-zero stage. -/
theorem runs_pollOn {L : LaneId} (hs : Stands (azPollSeq c L) code n) (fuel : Nat) :
    Runs code c n anyLocals (pollOn c L fuel) (n + (azPollSeq c L).length) fun _ => anyLocals := by
  induction fuel with
  | zero => exact fun _ _ _ _ _ _ _ h => nomatch h
  | succ fuel ih =>
    obtain ⟨k, hk⟩ : ∃ k, (lanes L).length = k + 1 :=
      Nat.exists_eq_add_one.mpr (List.length_pos_iff.mpr (lanes_ne_nil L))
    intro inv s r t hpos _ hc hrun
    unfold azPollSeq at hs ih ⊢
    by_cases h0 : durationOf c .tAzPoll = 0
    · simp only [h0, if_true, length_azReads, hk] at hs ih ⊢
      refine runs_attempt (e := n + k) (lanes_ne_nil L) (by omega) hs ?_ inv s r t hpos rfl hc hrun
      intro done inv s r t hpos hc h
      refine reaches_azNext hpos h fun h hpos => ?_
      simp only [Reference.andThen, wait, hc, h0, if_true, poll_eq, assign] at h
      exact ih inv _ r t (by rw [hpos]; congr 1; omega) trivial hc h
    · simp only [h0, if_false, List.length_append, length_azReads, List.length_singleton, hk]
        at hs ih ⊢
      obtain ⟨hreads, hwait⟩ := hs.append
      rw [length_azReads, hk] at hwait
      refine runs_attempt (e := n + k) (lanes_ne_nil L) (by omega) hreads ?_ inv s r t hpos rfl hc
        hrun
      intro done inv s r t hpos hc h
      refine reaches_azNext hpos h fun h hpos => ?_
      simp only [Reference.andThen, wait, hc, h0, if_false, poll_eq, assign] at h
      exact .of_walks (walks_wait hpos hwait.head)
        (ih _ _ r t (by simp only [Position.run.injEq]; omega) trivial hc h)

/-- The regulator-calibration poll. -/
def regcalSeq (c : Cfg) : List MicroOp :=
  if durationOf c .tRegcalPoll = 0 then [opOf (.read c.aRegcal (.regcal 1 0))]
  else [opOf (.read c.aRegcal (.regcal 2 1)), opOf (.wait .tRegcalPoll 2)]

theorem raCode_allLanes (c : Cfg) : raCode c .allLanes =
    [{ act := .write c.aMrst Config.patAllReset, post := .regcalStart }] ++ regcalSeq c := rfl

theorem limitReached_iff {count : Nat} :
    limitReached c count = true ↔ c.regcalPollLimit = some count := by
  unfold limitReached
  cases c.regcalPollLimit <;> simp [eq_comm]

/-- A read of the calibration register ends the poll, or the procedure at the limit, or leads to
`again`. -/
theorem reaches_regcal {onDone onRetry : Nat} {again : Piece Unit} {inv : Invocation} {s t : State}
    {r : Except RecoveryOutcome Unit} (hpos : inv.pos = .run n) (hc : cfgOf s = c)
    (hop : code[n]? = some (opOf (.read c.aRegcal (.regcal onDone onRetry))))
    (h : andThen (read c.aRegcal) (fun v =>
      andThen (assign fun s => { s with regcalCount := s.regcalCount + 1 }) fun _ =>
      if test v c.bRegcal then value ()
      else fun s =>
        if c.regcalPollLimit = some s.regcalCount then giveUp .regulatorCalibrationTimeout s
        else again s) s = some (r, t))
    (hagain : ∀ s', cfgOf s' = c → again s' = some (r, t) →
      Reaches code ({ inv with pos := .run (n + onRetry) }, s') (n + onDone) (fun _ => anyLocals)
        r t) :
    Reaches code (inv, s) (n + onDone) (fun _ => anyLocals) r t := by
  refine reaches_read hpos hop h fun v s' hconf h => ?_
  have hc' : cfgOf s' = c := (congrArg WfCfg.cfg hconf).trans hc
  refine ⟨_, _, _, fun _ => rfl, ?_⟩
  simp only [hc']
  simp only [andThen, assign] at h
  by_cases hv : test v c.bRegcal = true
  · simp only [hv, if_true] at h ⊢
    cases h
    exact ⟨_, .refl, rfl, trivial⟩
  · by_cases hlim : c.regcalPollLimit = some (s'.regcalCount + 1)
    · simp only [hv, hlim, limitReached_iff.mpr hlim, if_true, Bool.false_eq_true, if_false] at h ⊢
      cases h
      exact ⟨_, .refl, .returned rfl⟩
    · simp only [hv, hlim, limitReached_iff, Bool.false_eq_true, if_false] at h ⊢
      exact hagain _ hc' h

theorem runs_regcalPoll (hs : Stands (regcalSeq c) code n) (fuel : Nat) :
    Runs code c n anyLocals (regcalPoll c fuel) (n + (regcalSeq c).length) fun _ => anyLocals := by
  induction fuel with
  | zero => exact fun _ _ _ _ _ _ _ h => nomatch h
  | succ fuel ih =>
    intro inv s r t hpos _ hc hrun
    unfold regcalSeq at hs ih ⊢
    by_cases h0 : durationOf c .tRegcalPoll = 0
    · simp only [h0, if_true] at hs ih ⊢
      refine reaches_regcal hpos hc hs.head hrun fun s' hc' h => ?_
      simp only [Reference.andThen, wait, hc', h0, if_true] at h
      exact ih _ s' r t rfl trivial hc' h
    · simp only [h0, if_false] at hs ih ⊢
      refine reaches_regcal hpos hc hs.head hrun fun s' hc' h => ?_
      simp only [Reference.andThen, wait, hc', h0, if_false] at h
      exact .of_walks (walks_wait rfl (hs.append (xs := [_])).2.head)
        (ih _ _ r t rfl trivial hc' h)

end

/-! ## The Auto-Zero Calibration Stage (R201 to R204) -/

section

variable {c : Cfg} {L : LaneId}

theorem follows_azPollSeq (fuel : Nat) : Follows c anyLocals (azPollSeq c L) (pollOn c L fuel)
    fun _ => anyLocals := fun _ _ hs => runs_pollOn hs fuel

/-- The triggers, with the first assignments to `st.azCount` at the last of them. -/
theorem follows_azTrigger {ls : List Lane} (hls : ls ≠ []) :
    Follows c anyLocals (azTrigger c ls)
      (andThen (forEach ls fun i => andThen (write (addrOf (rxMain c) i) 0x0410#16) fun _ =>
        write (addrOf (rxMain c) i) 0x0412#16) fun _ => assign (applyPost .azStart))
      fun _ => anyLocals := by
  have htrig (i : Lane) : Follows c anyLocals
      [opOf (.write (addrOf (rxMain c) i) Config.patAzTrig1)]
      (write (addrOf (rxMain c) i) 0x0410#16) fun _ => anyLocals :=
    (labelled_write _).follows (.single rfl)
  induction ls with
  | nil => exact absurd rfl hls
  | cons l ls ih =>
    simp only [forEach, andThen_andThen]
    cases ls with
    | nil =>
      refine Follows.andThen (xs := [_]) (htrig l) fun _ => ?_
      exact (labelled_writePost (w := fun _ => Config.patAzTrig2) fun _ _ _ => rfl).follows
        (.single rfl)
    | cons l' ls =>
      refine Follows.andThen (xs := [_]) (htrig l) fun _ => ?_
      exact Follows.andThen (xs := [_]) ((labelled_write _).follows (.single rfl)) fun _ =>
        ih (by simp)

/-- Steps 1 to 5, with the first assignments to `st.azCount` (R201, R202). -/
theorem labelled_azArm : Labelled c anyLocals (azArm c L)
    (andThen (arm c L) fun _ => assign (applyPost .azStart)) fun _ => anyLocals := by
  simp only [azArm, arm, List.append_assoc, andThen_andThen]
  have hvco : Labelled c anyLocals
      ((lanes L).map fun l => opOf (.writeVco (addrOf (oscMan c) l) l))
      (forEach (lanes L) fun i => fun s => write (addrOf (oscMan c) i) (vcoGet s.vco i) s)
      fun _ => anyLocals :=
    labelled_forEach_map (fun l => labelled_writeWord (w := fun t => vcoGet t l) fun _ _ _ => rfl)
      (lanes_ne_nil L)
  exact hvco.andThen (by simp [lanes_ne_nil]) fun _ => ((labelled_lanes _).follows .map).andThen
    fun _ => ((labelled_write _).follows (.single rfl)).andThen fun _ =>
      follows_deassertSeq.andThen fun _ => follows_azTrigger (lanes_ne_nil L)

theorem follows_azFinish : Follows c anyLocals (azFinish c L) (snapshot c L)
    fun _ => anyLocals := by
  refine (follows_forEach (fun l => follows_forEach (fun f => ?_) _) _).andThen fun _ =>
    (labelled_write _).follows (.single rfl)
  exact (labelled_rmw .shiftRight8).follows (.cons rfl (.single rfl))

theorem autoZero_eq (fuel : Nat) (c : Cfg) (L : LaneId) : autoZero fuel c L =
    andThen (andThen (arm c L) fun _ => assign (applyPost .azStart)) fun _ =>
      andThen (pollOn c L fuel) fun _ => snapshot c L := by
  simp only [autoZero, andThen_andThen, poll_eq]
  rfl

theorem labelled_azCode (fuel : Nat) : Labelled c anyLocals (azCode c L) (autoZero fuel c L)
    fun _ => anyLocals := by
  rw [autoZero_eq, azCode, List.append_assoc]
  exact labelled_azArm.andThen (by simp [azArm]) fun _ =>
    (follows_azPollSeq fuel).andThen fun _ => follows_azFinish

/-! ## The Lane Recovery Orchestrator (R262 to R264) -/

theorem labelled_raCode (fuel : Nat) : Labelled c anyLocals (raCode c L)
    (resetAsserted fuel c L) fun _ => anyLocals := by
  cases L with
  | lane l =>
    exact labelled_assertSeq.andThen (by simp [assertSeq, targets]) fun _ => follows_wait .tRxRst
  | allLanes =>
    have hpoll : Follows c anyLocals (regcalSeq c) (regcalPoll c fuel) fun _ => anyLocals :=
      fun _ _ hs => runs_regcalPoll hs fuel
    have hwrite : Labelled c anyLocals
        [{ act := .write c.aMrst Config.patAllReset, post := .regcalStart }]
        (andThen (write c.aMrst 0x9C00#16) fun _ => assign (applyPost .regcalStart))
        fun _ => anyLocals :=
      labelled_writePost (w := fun _ => Config.patAllReset) fun _ _ _ => rfl
    have heq : resetAsserted fuel c .allLanes =
        andThen (andThen (write c.aMrst 0x9C00#16) fun _ => assign (applyPost .regcalStart))
          fun _ => regcalPoll c fuel := by
      rw [andThen_andThen]
      rfl
    rw [heq, raCode_allLanes]
    exact hwrite.andThen (by simp) fun _ => hpoll

/-- Each stage's assignment to `st.fsm` is the label of the stage's code (R262). -/
theorem follows_recoverCode (fuel : Nat) (ag : Agent) : Follows c anyLocals (recoverCode c L ag)
    (recover fuel c L ag) fun _ => anyLocals := by
  simp only [recoverCode, List.append_assoc]
  exact (labelled_raCode fuel (.recoverStart L ag)).andThen fun _ =>
    (labelled_azCode fuel (.stage .calibratingAZ)).andThen fun _ =>
      (labelled_acqCode (.stage .acquiringFrequency)).andThen fun _ =>
        labelled_lockCode (.stage .lockTesting)

end

/-! ## Every command (R101) -/

section

variable {c : Cfg}

/-- The high half of the identifier is kept for the comparison (R290). -/
theorem follows_probeCode (a d : Word) : Follows c anyLocals (probeCode c a d) probe
    fun _ => anyLocals := by
  have hhi : Labelled c anyLocals [opOf (.read Config.aIdHi .resultHi)]
      (andThen (read 0x0002#16) fun hi =>
        andThen (assign fun s => { s with resultHi := hi }) fun _ => value hi)
      fun hi v _ => v = hi := by
    refine labelled_read fun v n inv s r t _ _ h => ?_
    cases h
    exact ⟨_, _, fun _ => rfl, rfl, rfl⟩
  have hlo (hi : Word) : Labelled c (fun v _ => v = hi) [opOf (.read Config.aIdLo .identity)]
      (andThen (read 0x0003#16) fun lo =>
        andThen (assign fun s => { s with result := lo }) fun _ =>
        if concat hi lo = 0x02107440#32 then value () else giveUp .deviceIdentityMismatch)
      fun _ => anyLocals := by
    refine labelled_read fun lo n inv s r t hv _ h => ?_
    subst hv
    by_cases hid : concat inv.v lo = Config.productId
    · simp only [andThen, assign, if_pos (show concat inv.v lo = 0x02107440#32 from hid)] at h
      cases h
      exact ⟨_, _, fun _ => rfl, if_pos hid, trivial⟩
    · simp only [andThen, assign, if_neg (show ¬ concat inv.v lo = 0x02107440#32 from hid)] at h
      cases h
      exact ⟨_, _, fun _ => rfl, if_neg hid⟩
  have hprobe := Follows.andThen (hhi.follows (.single rfl)) fun hi =>
    (hlo hi).follows (.single rfl)
  rw [andThen_andThen] at hprobe
  exact hprobe

theorem follows_regReadCode (a d : Word) : Follows c anyLocals (regReadCode c a d)
    (andThen (read a) fun v => assign fun s => { s with result := v }) fun _ => anyLocals := by
  refine Labelled.follows (labelled_read fun v n inv s r t _ _ h => ?_) (.single rfl)
  cases h
  exact ⟨_, _, fun _ => rfl, rfl, trivial⟩

/-- The code of every command does what its pseudocode does. -/
theorem follows_codeOf (fuel : Nat) (a d : Word) (i : Instr) :
    Follows c anyLocals (codeOf c a d i) (body fuel c a d i) fun _ => anyLocals := by
  cases i with
  | probe => exact follows_probeCode a d
  | detach => exact follows_value (Q := fun _ => anyLocals) ()
  | regRead => exact follows_regReadCode a d
  | regWrite => exact (labelled_write d).follows (.single rfl)
  | assertRxReset L | assertTxCoreReset L | assertTxPllReset L | assertRxPowerdown L =>
    exact follows_assertSeq
  | deassertRxReset L | deassertTxCoreReset L | deassertTxPllReset L | deassertRxPowerdown L =>
    exact follows_deassertSeq
  | disableLolMonitor L =>
    show Follows c _ (lolDisableSeq c L)
      (if c.loldisSet then assertBits c .lolDis L else deassertBits c .lolDis L) _
    unfold lolDisableSeq
    split
    · exact follows_assertSeq
    · exact follows_deassertSeq
  | toggleReset dm L => exact follows_toggleSeq
  | runAutozero L => exact (labelled_azCode fuel).follows (plain_az c L)
  | runFreqPll L => exact follows_fpCode
  | txRestart l => exact follows_txRestartSeq
  | recover L => exact follows_recoverCode fuel .host

end

/-! ## Who runs a procedure -/

/-- The state with the sequencer held by `ag` for the invocation (R43, R342). -/
def holding (ag : Agent) (inv : Invocation) (s : State) : State :=
  { s with lock := some ag, inv := some inv }

section

variable (ag : Agent) (h : Invocation)

theorem applyPre_holding (p : Pre) (s : State) :
    applyPre p (holding ag h s) = holding ag h (applyPre p s) := by
  cases p <;> rfl

theorem applyPost_holding (p : Post) (s : State) :
    applyPost p (holding ag h s) = holding ag h (applyPost p s) := by
  cases p <;> rfl

theorem azNext_holding (d : Bool) (onDone back n : Nat) (s : State) :
    azNext d onDone back n (holding ag h s) =
      ((azNext d onDone back n s).1, holding ag h (azNext d onDone back n s).2) := by
  simp only [azNext, show (holding ag h s).azCount = s.azCount from rfl]
  split
  · rfl
  · split
    · rfl
    · split <;> rfl

theorem useValue_holding (u : Use) (v : Word) (n : Nat) (inv : Invocation) (go : Continuation)
    (s : State) : useValue u v n inv go (holding ag h s) =
      useValue u v n inv (fun p inv t => go p inv (holding ag h t)) s := by
  cases u with
  | azLast first onDone back => simp only [useValue, azNext_holding]
  | _ => rfl

/-- A primitive neither reads nor writes who holds the sequencer. -/
theorem perform_holding (op : MicroOp) (n : Nat) (inv : Invocation) (go : Continuation)
    (fail : State → State) (s : State) :
    perform op n inv go fail (holding ag h s) =
      perform op n inv (fun p inv t => go p inv (holding ag h t)) (fun t => fail (holding ag h t))
        s := by
  have hreply : nextReply (holding ag h s) = nextReply s := rfl
  cases hw : writtenWord op.act inv s with
  | some aw =>
    have hw' : writtenWord op.act inv (holding ag h s) = some aw := by
      rw [← hw]
      cases op.act <;> rfl
    rw [perform_write hw, perform_write hw', hreply, applyPre_holding]
    cases nextReply s with
    | ok v =>
      exact congrArg (go _ inv) (applyPost_holding ag h op.post
        (record (.wr aw.1 aw.2) (drawReply (applyPre op.pre s))))
    | fail => rfl
  | none =>
    rcases read_or_wait_of_writtenWord hw with ⟨a, u, hact⟩ | ⟨d, back, hact⟩
    · rw [perform_read hact, perform_read hact, hreply, applyPre_holding]
      cases nextReply s with
      | ok v =>
        exact useValue_holding ag h u v n inv go (record (.rd a v) (drawReply (applyPre op.pre s)))
      | fail => rfl
    · rw [perform_wait hact, perform_wait hact, applyPre_holding]
      exact congrArg (go _ inv) (applyPost_holding ag h op.post (waitFor d (applyPre op.pre s)))

end

/-! ## The host's run of a command -/

section

variable {i : Instr} {a d : Word} {c : Cfg} {x y : Invocation × State}

/-- The invocation and state `x` are ones of the command `i`, under the configuration `c`. -/
def HostAt (c : Cfg) (i : Instr) (a d : Word) (x : Invocation × State) : Prop :=
  x.1.proc = .command i a d ∧ cfgOf x.2 = c

theorem HostAt.walks (h : HostAt c i a d x) {code : List MicroOp} (hw : Walks code x y) :
    HostAt c i a d y :=
  ⟨hw.kept.2.trans h.1, hw.kept.1.trans h.2⟩

theorem HostAt.running (h : HostAt c i a d x) : Running i a d x.1 (holding .host x.1 x.2) :=
  ⟨rfl, rfl, h.1⟩

/-- One primitive is one step of the command (R16). -/
theorem exec_of_advances (hx : HostAt c i a d x) (h : Advances (codeOf c a d i) x y) :
    exec i (holding .host x.1 x.2) = .next (holding .host y.1 y.2) := by
  rw [exec_running hx.running]
  obtain ⟨-, rfl⟩ := hx
  obtain ⟨hpos, hop, hgoes⟩ := h
  rw [hostAdvance_op hpos hop, perform_holding, hgoes]
  rfl

theorem execTimes_of_walks (hx : HostAt c i a d x) (h : Walks (codeOf c a d i) x y) :
    ∃ n, execTimes n i (holding .host x.1 x.2) = .next (holding .host y.1 y.2) := by
  induction h with
  | refl => exact ⟨0, rfl⟩
  | tail hw hstep ih =>
    obtain ⟨n, hn⟩ := ih
    refine ⟨n + 1, ?_⟩
    rw [execTimes_add hn, execTimes_succ (exec_of_advances (hx.walks hw) hstep)]
    rfl

/-- The command's own last updates and `finish o` (R143, R262, R290, R293, R338). -/
theorem finishHost_finalOf (i : Instr) (o : RecoveryOutcome) (ag : Agent) (inv : Invocation)
    (s : State) :
    finishHost i o (finalOf i o (holding ag inv s)) = finish i o (lastUpdates i o s) := by
  cases i with
  | probe =>
    simp only [finalOf, lastUpdates, probeFinal]
    split
    · unfold attach
      dsimp only [holding]
      split <;> rfl
    · rfl
  | recover L =>
    simp only [finalOf, lastUpdates, recoverEnd]
    split <;> rfl
  | _ => rfl

/-- A failing outcome ends the command in one step. -/
theorem exec_of_fails {o : RecoveryOutcome} {t : State} (hx : HostAt c i a d x)
    (h : Fails (codeOf c a d i) x o t) :
    exec i (holding .host x.1 x.2) = .next (finish i o (lastUpdates i o t)) := by
  rw [exec_running hx.running, ← finishHost_finalOf i o .host x.1]
  obtain ⟨-, rfl⟩ := hx
  cases h with
  | returned hpos => rw [hostAdvance_returned hpos]
  | transport hpos hop hfails =>
    rw [hostAdvance_op hpos hop, perform_holding, hfails]
    rfl

/-- A procedure that is over ends the command in one step. -/
theorem exec_of_over (hx : HostAt c i a d x) (hpos : x.1.pos = .run (codeOf c a d i).length) :
    exec i (holding .host x.1 x.2) = .next (finish i .success (lastUpdates i .success x.2)) := by
  rw [exec_running hx.running, ← finishHost_finalOf i .success .host x.1]
  obtain ⟨-, rfl⟩ := hx
  rw [hostAdvance_done hpos (List.getElem?_eq_none le_rfl)]

/-- A command that reaches the end of its pseudocode is finished with its outcome. -/
theorem execTimes_of_reaches {r : Except RecoveryOutcome Unit} {t : State} (hx : HostAt c i a d x)
    (h : Reaches (codeOf c a d i) x (codeOf c a d i).length (fun _ => anyLocals) r t) :
    ∃ n, execTimes (n + 1) i (holding .host x.1 x.2) =
      .next (finish i (resultOf r) (lastUpdates i (resultOf r) t)) := by
  cases r with
  | ok u =>
    obtain ⟨inv, hw, hpos, -⟩ := h
    obtain ⟨n, hn⟩ := execTimes_of_walks hx hw
    exact ⟨n, by rw [execTimes_add hn, execTimes_succ (exec_of_over (hx.walks hw) hpos)]; rfl⟩
  | error o =>
    obtain ⟨y, hw, hfails⟩ := h
    obtain ⟨n, hn⟩ := execTimes_of_walks hx hw
    exact ⟨n, by rw [execTimes_add hn, execTimes_succ (exec_of_fails (hx.walks hw) hfails)]; rfl⟩

/-- What the pseudocode of a whole command leaves, by the result of its body. -/
theorem command_eq_some {fuel : Nat} {s t : State} (h : command fuel i a d s = some t) :
    ∃ r u, body fuel (cfgOf s) a d i (record (.began .host (kindOf i) (laneOperand i)) s) =
      some (r, u) ∧ t = finish i (resultOf r) (lastUpdates i (resultOf r) u) := by
  unfold command at h
  split at h
  next => cases h
  next u hbody =>
    cases h
    exact ⟨_, u, hbody, rfl⟩
  next o u hbody =>
    cases h
    exact ⟨_, u, hbody, rfl⟩

/-- The accepted command's invocation begins, with its latched operands (R142). -/
theorem beginHost_ready {s : State} (h : Ready i a d s) : beginHost i s =
    holding .host (startOf i a d) (record (.began .host (kindOf i) (laneOperand i)) s) := by
  unfold beginHost
  split
  next hc heq =>
    obtain rfl := Option.some.inj (heq.symm.trans h.2)
    rw [if_pos rfl]
    rfl
  next heq => cases heq.symm.trans h.2

/-- The step that begins the accepted command is a step of it as it runs. -/
theorem exec_ready_eq {s : State} (h : Ready i a d s) : exec i s =
    exec i (holding .host (startOf i a d)
      (record (.began .host (kindOf i) (laneOperand i)) s)) := by
  rw [exec_ready h, beginHost_ready h]
  exact (exec_running ⟨rfl, rfl, rfl⟩).symm

end

/-- Settles O41: the command's code follows its pseudocode from the first primitive to its end, and
each primitive, and the end, is one step of the command. -/
theorem commandsRefineReference : Obligations.CommandsRefineReference := by
  intro fuel i a d s t hready hcommand
  obtain ⟨r, u, hbody, rfl⟩ := command_eq_some hcommand
  have hreaches := follows_codeOf (c := cfgOf s) fuel a d i _ 0 (.self _) (startOf i a d)
    (record (.began .host (kindOf i) (laneOperand i)) s) r u rfl trivial rfl hbody
  rw [Nat.zero_add] at hreaches
  obtain ⟨n, hn⟩ := execTimes_of_reaches (a := a) (d := d) (c := cfgOf s) ⟨rfl, rfl⟩ hreaches
  exact ⟨n + 1, by rw [← hn, execTimes, exec_ready_eq hready, ← execTimes]⟩

end Sys2Proof.Machine
end

section
/-! The statements of the command lifecycle and the Lane Addressing Model
(spec/40_port_addressing): how a request is taken and how a command completes, what a command's step
leaves unchanged, the two commands of the Register Access Port, and the addresses of a family. -/

namespace Sys2Proof.Machine

open Reference

/-! ## Bit-Field Utilities and addresses -/

/-- Settles O4: each utility is its word operation by definition. -/
theorem bitFieldUtilities : Obligations.BitFieldUtilities := fun _ _ _ => ⟨rfl, rfl, rfl⟩

/-- The offset of a lane from its family's base, as one word (R149). -/
theorem laneAddr_eq (base : Word) (l : Lane) :
    laneAddr base l = base + BitVec.ofNat 16 (idx l * 0x100) := by
  cases l <;> rfl

/-- Settles O5: a per-lane family has one address for each lane of the LaneId, an aggregate one its
own address. -/
theorem resolveAddresses : Obligations.ResolveAddresses := by
  refine fun base addr => ⟨fun l => ?_, ?_, fun L => rfl, fun F l => ?_⟩
  · rw [← laneAddr_eq]
    rfl
  · have hzero : laneAddr base .l0 = base := (laneAddr_eq base .l0).trans (BitVec.add_zero base)
    show [laneAddr base .l0, laneAddr base .l1, laneAddr base .l2, laneAddr base .l3] = _
    rw [hzero]
    rfl
  · cases F <;> rfl

/-! ## A request for a command -/

section

variable {w : Word} {c : Instr} {s : State}

theorem cmdWrite_busy (h : s.busy = true) : cmdWrite w s = { s with cmdOverrun := true } :=
  if_pos h

theorem cmdWrite_illegal (h : s.busy = false) (hd : ∀ c, decode w ≠ .ok c) :
    cmdWrite w s = refuse .reservedEncoding (clearRequest s) := by
  rw [cmdWrite, if_neg (by simp [h])]
  split
  next => rfl
  next c hc => exact absurd hc (hd c)

theorem cmdWrite_legal (h : s.busy = false) (hd : decode w = .ok c) :
    cmdWrite w s = request w c (clearRequest s) := by
  rw [cmdWrite, if_neg (by simp [h]), hd]

theorem request_probe_of_bound (h : s.bound = true) :
    request w .probe s = refuse .alreadyBound s :=
  if_pos ⟨rfl, h⟩

theorem request_of_unbound (hn : needsBound c = true) (h : s.bound = false) :
    request w c s = refuse .notBound s := by
  rw [request, if_neg (by simp [h]), if_pos (by simp [hn, h])]

/-- A request that meets both conditions on the binding is accepted (R140). -/
theorem request_accepts (hp : c = .probe → s.bound = false)
    (hn : needsBound c = true → s.bound = true) : request w c s = accept w c s := by
  rw [request, if_neg fun h => by simp [hp h.1] at h, if_neg fun h => h.2 (hn h.1)]

theorem accept_of_ne_detach (h : c ≠ .detach) : accept w c s =
    { s with
      cmd := w, hostCmd := some { cmd := c, addr := s.argAddr, data := s.argData }, busy := true } :=
  if_neg h

end

/-- The commands that do not need BOUND (R101). -/
theorem needsBound_eq_false_iff (c : Instr) :
    needsBound c = false ↔ c = .probe ∨ c = .regRead ∨ c = .regWrite := by
  cases c <;> simp [needsBound]

/-- A step whose move is a host write to CMD. -/
theorem step_cmdWrite {w : Word} {s : State} (h : nextMove s = .hostWrite 0x0 w) :
    step s = .next (cmdWrite w (record (.hostWr 0x0 w) (takeTurn s))) :=
  step_hostWrite h

/-- Settles O22: the write is dropped while busy, and else it is the request of the decoded command,
by its conditions on the binding. -/
theorem commandRequest : Obligations.CommandRequest := by
  refine ⟨needsBound_eq_false_iff, fun w s hm => ?_⟩
  rw [step_cmdWrite hm]
  refine ⟨fun hb => ?_, fun hb hd => ?_, fun c hb hd hc hbound => ?_, fun c hb hd hn hbound => ?_,
    fun c hb hd hp hn hc => ?_, fun hb hd hbound => ?_⟩
  · rw [cmdWrite_busy (by exact hb)]
    rfl
  · rw [cmdWrite_illegal (by exact hb) hd]
    rfl
  · rw [cmdWrite_legal (by exact hb) hd, hc, request_probe_of_bound (by exact hbound)]
    rfl
  · rw [cmdWrite_legal (by exact hb) hd, request_of_unbound hn (by exact hbound)]
    rfl
  · rw [cmdWrite_legal (by exact hb) hd, request_accepts (by exact hp) (by exact hn),
      accept_of_ne_detach hc]
    rfl
  · rw [cmdWrite_legal (by exact hb) hd, request_accepts (c := .detach) (by rintro ⟨⟩)
      (fun _ => by exact hbound)]
    rfl

/-! ## How a step of a command ends -/

/-- A step of a running command finishes it with some outcome, or keeps it running with every field
of `Kept` as it was. -/
theorem hostAdvance_finishes_or_goes (i : Instr) (code : Cfg → Word → Word → List MicroOp)
    (final : RecoveryOutcome → State → State) (a d : Word) (inv : Invocation) (s : State) :
    (∃ o u, hostAdvance i code final a d inv s = finishHost i o u) ∨
      ∃ p inv' u, hostAdvance i code final a d inv s = goTo p inv' u ∧ Kept s u := by
  unfold hostAdvance
  split
  next n hpos =>
    split
    next => exact .inl ⟨_, _, rfl⟩
    next op hop =>
      rcases perform_passes op n inv goTo (fun s => finishHost i .transportError
        (final .transportError (setTransportFault s))) s with ⟨p, inv', u, heq, hu⟩ | ⟨e, heq⟩
      · exact .inr ⟨p, inv', u, heq, hu.kept⟩
      · exact .inl ⟨_, _, heq⟩
  next => exact .inl ⟨_, _, rfl⟩
  next => exact .inl ⟨_, _, rfl⟩

/-- Settles O45: `finishHost` makes all the updates of completion at once, and a command that goes on
makes none of them. -/
theorem completionStep : Obligations.CompletionStep := by
  intro i a d inv s h
  refine ⟨_, exec_running h, ?_⟩
  rcases hostAdvance_finishes_or_goes i (fun c a d => codeOf c a d i) (finalOf i) a d inv s with
    ⟨o, u, heq⟩ | ⟨p, inv', u, heq, hk⟩
  · rw [heq]
    exact .inr ⟨o, rfl, rfl, rfl, rfl, rfl, rfl, rfl⟩
  · rw [heq]
    exact .inl ⟨hk.lock.trans h.1, rfl, hk.hostCmd, hk.busy, hk.doneFlag, hk.outcome⟩

/-! ## What a step of a command leaves unchanged -/

/-- The state but for the sequencer, the request, the trace, the time and the answers, in parts that
some commands write and the others leave alone. -/
inductive Part where
  /-- The configuration, the host's operand and refusal registers, and the model's own fields. -/
  | fixed
  /-- The interrupt inputs, and how their last bursts ended. -/
  | levels
  /-- What PROBE reads and attaches, but for RESULT and BOUND (R290, R292). -/
  | probing
  | result
  | bound
  | trim (l : Lane)
  | orchestrator
  | azCount
  | regcalCount

namespace Part

/-- The part is as it was. -/
def Same (p : Part) (s t : State) : Prop :=
  match p with
  | fixed =>
    (t.conf, t.cmd, t.argAddr, t.argData, t.cmdRefused, t.cmdOverrun, t.refuseReason, t.monPeriod,
        t.agenda, t.turn, t.grants, t.hostProg) =
      (s.conf, s.cmd, s.argAddr, s.argData, s.cmdRefused, s.cmdOverrun, s.refuseReason, s.monPeriod,
        s.agenda, s.turn, s.grants, s.hostProg)
  | levels =>
    (t.irq2.level, t.irq2.lastOk, t.irq3.level, t.irq3.lastOk) =
      (s.irq2.level, s.irq2.lastOk, s.irq3.level, s.irq3.lastOk)
  | probing =>
    (t.resultHi, t.monSample, t.monArmed, t.monDue, t.monRef, t.irq2, t.irq3) =
      (s.resultHi, s.monSample, s.monArmed, s.monDue, s.monRef, s.irq2, s.irq3)
  | result => t.result = s.result
  | bound => t.bound = s.bound
  | trim l => vcoGet t.vco l = vcoGet s.vco l
  | orchestrator => (t.fsm, t.reason, t.target, t.agent) = (s.fsm, s.reason, s.target, s.agent)
  | azCount => t.azCount = s.azCount
  | regcalCount => t.regcalCount = s.regcalCount

/-- The command's rules write the part (R200, R230, R234, R261, R264, R290, R293, R144). -/
def WrittenBy (p : Part) (i : Instr) : Prop :=
  match p with
  | fixed | levels => False
  | probing => i = .probe
  | result => i = .probe ∨ i = .regRead
  | bound => i = .probe ∨ i = .detach
  | trim l => ∃ L, (i = .runFreqPll L ∨ i = .recover L) ∧ l ∈ lanes L
  | orchestrator => ∃ L, i = .recover L
  | azCount => ∃ L, i = .runAutozero L ∨ i = .recover L
  | regcalCount => i = .recover .allLanes

theorem Same.trans {p : Part} {s t u : State} (h : p.Same s t) (g : p.Same t u) : p.Same s u := by
  cases p <;> exact Eq.trans g h

end Part

/-! ### The parts a primitive writes -/

/-- The parts that what precedes a primitive writes (R262). -/
def preParts : Pre → List Part
  | .nothing => []
  | .recoverStart _ _ | .stage _ => [.orchestrator]

/-- The parts that what follows a write or a Wait writes (R202, R264). -/
def postParts : Post → List Part
  | .nothing => []
  | .azStart | .azAttempt => [.azCount]
  | .regcalStart => [.regcalCount]

/-- The parts that the use of a value read writes. -/
def useParts : Use → List Part
  | .keep | .discard | .azPoll _ | .lockTest _ => []
  | .result | .identity => [.result]
  | .resultHi => [.probing]
  | .azLast _ _ _ => [.azCount]
  | .regcal _ _ => [.regcalCount]
  | .vcoUpdate l => [.trim l]

/-- The parts that a primitive writes after its transaction or Wait. -/
def actParts (post : Post) : Act → List Part
  | .write _ _ | .writeVco _ _ | .writeBack _ _ | .wait _ _ => postParts post
  | .read _ u => useParts u

/-- The parts that a primitive writes. -/
def opParts (op : MicroOp) : List Part := preParts op.pre ++ actParts op.post op.act

section

variable {p : Part}

theorem same_record (e : Event) (s : State) : p.Same s (record e s) := by cases p <;> rfl

theorem same_drawReply (s : State) : p.Same s (drawReply s) := by cases p <;> rfl

theorem same_goTo (x : Position) (inv : Invocation) (s : State) : p.Same s (goTo x inv s) := by
  cases p <;> rfl

theorem same_waitFor (t : Delay) (s : State) : p.Same s (waitFor t s) := by cases p <;> rfl

theorem same_setTransportFault (s : State) : p.Same s (setTransportFault s) := by cases p <;> rfl

theorem same_beginHost (c : Instr) (s : State) : p.Same s (beginHost c s) := by cases p <;> rfl

theorem same_finishHost (c : Instr) (o : RecoveryOutcome) (s : State) :
    p.Same s (finishHost c o s) := by
  cases p <;> rfl

theorem same_applyPre {q : Pre} (h : p ∉ preParts q) (s : State) : p.Same s (applyPre q s) := by
  cases q with
  | nothing => cases p <;> rfl
  | recoverStart _ _ | stage _ =>
    cases p with
    | orchestrator => simp [preParts] at h
    | _ => rfl

theorem same_applyPost {q : Post} (h : p ∉ postParts q) (s : State) : p.Same s (applyPost q s) := by
  cases q with
  | nothing => cases p <;> rfl
  | azStart | azAttempt =>
    cases p with
    | azCount => simp [postParts] at h
    | _ => rfl
  | regcalStart =>
    cases p with
    | regcalCount => simp [postParts] at h
    | _ => rfl

theorem same_azNext (h : p ≠ .azCount) (d : Bool) (onDone back n : Nat) (s : State) :
    p.Same s (azNext d onDone back n s).2 := by
  have hrefl : p.Same s s := by cases p <;> rfl
  unfold azNext
  split
  · exact hrefl
  · split
    · exact hrefl
    · split
      · exact hrefl
      · cases p with
        | azCount => exact absurd rfl h
        | _ => rfl

/-- A trim update leaves the other lanes' words (R234). -/
theorem vcoGet_vcoSet_ne {l l' : Lane} (h : l' ≠ l) (t : VcoTable) (v : Word) :
    vcoGet (vcoSet t l v) l' = vcoGet t l' := by
  cases l <;> cases l' <;> simp_all [vcoGet, vcoSet]

theorem same_useValue {u : Use} {go : Continuation} (h : p ∉ useParts u)
    (hgo : ∀ x inv t, p.Same t (go x inv t)) (v : Word) (n : Nat) (inv : Invocation) (s : State) :
    p.Same s (useValue u v n inv go s) := by
  cases u with
  | keep | discard | azPoll _ | lockTest _ => exact hgo _ _ _
  | result | identity =>
    refine .trans ?_ (hgo _ _ _)
    cases p with
    | result => simp [useParts] at h
    | _ => rfl
  | resultHi =>
    refine .trans ?_ (hgo _ _ _)
    cases p with
    | probing => simp [useParts] at h
    | _ => rfl
  | regcal _ _ =>
    refine .trans ?_ (hgo _ _ _)
    cases p with
    | regcalCount => simp [useParts] at h
    | _ => rfl
  | azLast _ _ _ => exact .trans (same_azNext (by simpa [useParts] using h) _ _ _ _ _) (hgo _ _ _)
  | vcoUpdate l =>
    refine .trans ?_ (hgo _ _ _)
    cases p with
    | trim l' => exact vcoGet_vcoSet_ne (by simpa [useParts] using h) _ _
    | _ => rfl

/-- Performing a primitive leaves every part it does not write. -/
theorem same_perform {op : MicroOp} {go : Continuation} {fail : State → State} (h : p ∉ opParts op)
    (hgo : ∀ x inv t, p.Same t (go x inv t)) (hfail : ∀ t, p.Same t (fail t)) (n : Nat)
    (inv : Invocation) (s : State) : p.Same s (perform op n inv go fail s) := by
  obtain ⟨hpre, hact⟩ : p ∉ preParts op.pre ∧ p ∉ actParts op.post op.act := by
    simpa [opParts] using h
  have hevent (e : Event) : p.Same s (record e (drawReply (applyPre op.pre s))) :=
    ((same_applyPre hpre s).trans (same_drawReply _)).trans (same_record e _)
  cases ha : op.act with
  | write _ _ | writeVco _ _ | writeBack _ _ =>
    rw [ha] at hact
    rw [perform_write (by rw [ha]; rfl)]
    cases nextReply s with
    | ok v => exact ((hevent _).trans (same_applyPost hact _)).trans (hgo _ _ _)
    | fail => exact (hevent _).trans (hfail _)
  | read a u =>
    rw [ha] at hact
    rw [perform_read ha]
    cases nextReply s with
    | ok v => exact (hevent _).trans (same_useValue hact hgo _ _ _ _)
    | fail => exact (hevent _).trans (hfail _)
  | wait t back =>
    rw [ha] at hact
    rw [perform_wait ha]
    exact (((same_applyPre hpre s).trans (same_waitFor t _)).trans (same_applyPost hact _)).trans
      (hgo _ _ _)

end

/-! ### The parts a procedure writes -/

/-- The primitives of the list write only parts that the command `i` may write. -/
def Writes (i : Instr) (ops : List MicroOp) : Prop :=
  ∀ op ∈ ops, ∀ p ∈ opParts op, p.WrittenBy i

section

variable {i : Instr}

@[simp] theorem writes_nil : Writes i [] := by simp [Writes]

@[simp] theorem writes_cons {op : MicroOp} {ops : List MicroOp} :
    Writes i (op :: ops) ↔ (∀ p ∈ opParts op, p.WrittenBy i) ∧ Writes i ops := by
  simp [Writes]

@[simp] theorem writes_append {xs ys : List MicroOp} :
    Writes i (xs ++ ys) ↔ Writes i xs ∧ Writes i ys := by
  simp only [Writes, List.mem_append, or_imp, forall_and]

@[simp] theorem writes_flatMap {α : Type} {l : List α} {f : α → List MicroOp} :
    Writes i (l.flatMap f) ↔ ∀ x ∈ l, Writes i (f x) := by
  simp only [Writes, List.mem_flatMap]
  exact ⟨fun h x hx op ho => h op ⟨x, hx, ho⟩, fun h op ⟨x, hx, ho⟩ => h x hx op ho⟩

@[simp] theorem writes_map {α : Type} {l : List α} {f : α → MicroOp} :
    Writes i (l.map f) ↔ ∀ x ∈ l, ∀ p ∈ opParts (f x), p.WrittenBy i := by
  simp [Writes]

/-- A label before a procedure writes only the orchestrator's registers (R262). -/
theorem Writes.withPre {ops : List MicroOp} (h : Writes i ops) (q : Pre)
    (ho : Part.orchestrator.WrittenBy i) : Writes i (withPre q ops) := by
  have hq : ∀ p ∈ preParts q, p.WrittenBy i := by
    cases q with
    | nothing => simp [preParts]
    | recoverStart _ _ | stage _ => simpa [preParts] using ho
  cases ops with
  | nil => exact h
  | cons op ops =>
    obtain ⟨hop, hops⟩ := writes_cons.mp h
    refine writes_cons.mpr ⟨fun p hp => ?_, hops⟩
    rcases List.mem_append.mp hp with hp | hp
    · exact hq p hp
    · exact hop p (List.mem_append_right _ hp)

variable (c : Cfg) (d : Domain) (L : LaneId)

@[simp] theorem opParts_opOf (act : Act) : opParts (opOf act) = actParts .nothing act := rfl

@[simp] theorem writes_assertSeq : Writes i (assertSeq c d L) := by
  simp [assertSeq, actParts, useParts, postParts]

@[simp] theorem writes_deassertSeq : Writes i (deassertSeq c d L) := by
  simp [deassertSeq, actParts, useParts, postParts]

@[simp] theorem writes_waitOps (t : Delay) : Writes i (waitOps c t) := by
  unfold waitOps
  split <;> simp [actParts, postParts]

@[simp] theorem writes_toggleSeq : Writes i (toggleSeq c d L) := by
  simp [toggleSeq, actParts, useParts, postParts]

@[simp] theorem writes_txRestartSeq (l : Lane) : Writes i (txRestartSeq c l) := by
  simp [txRestartSeq]

@[simp] theorem writes_acqCode : Writes i (acqCode c L) := by
  cases L <;> simp [acqCode, faSeq, pllRestart, actParts, postParts]

/-- The lock stage writes the trim words of its lanes and no other part (R234). -/
theorem writes_lockCode (h : ∀ l ∈ lanes L, (Part.trim l).WrittenBy i) :
    Writes i (lockCode c L) := by
  have htrim : Writes i (vcoUpdateSeq c L) := by
    simpa [vcoUpdateSeq, actParts, useParts] using h
  cases L <;>
    simp [lockCode, htrim, lockTestSeq, txEnableSeq, fifoFlushSeq, actParts, useParts, postParts]

theorem writes_fpCode (h : ∀ l ∈ lanes L, (Part.trim l).WrittenBy i) : Writes i (fpCode c L) :=
  writes_append.mpr ⟨writes_acqCode c L, writes_lockCode c L h⟩

theorem writes_azTrigger (h : Part.azCount.WrittenBy i) (ls : List Lane) :
    Writes i (azTrigger c ls) := by
  induction ls using azTrigger.induct with
  | case1 => simp [azTrigger]
  | case2 l => simpa [azTrigger, opParts, opOf, actParts, preParts, postParts] using h
  | case3 l ls hls ih => simpa [azTrigger, actParts, postParts] using ih

theorem writes_azReads (h : Part.azCount.WrittenBy i) (onDone back : Nat) (first : Bool)
    (ls : List Lane) : Writes i (azReads c onDone back first ls) := by
  induction first, ls using azReads.induct with
  | case1 => simp [azReads]
  | case2 first l => simpa [azReads, actParts, useParts] using h
  | case3 first l ls hls ih => simpa [azReads, actParts, useParts] using ih

/-- The auto-zero stage writes its count of attempts and no other part (R202). -/
theorem writes_azCode (h : Part.azCount.WrittenBy i) : Writes i (azCode c L) := by
  have hpoll : Writes i (azPollSeq c L) := by
    unfold azPollSeq
    split
    · exact writes_azReads c h _ _ _ _
    · exact writes_append.mpr ⟨writes_azReads c h _ _ _ _,
        by simpa [opParts, preParts, actParts, postParts] using h⟩
  simp [azCode, azArm, azFinish, azSnapshot, hpoll, writes_azTrigger c h, actParts, useParts,
    postParts]

/-- ResetAsserted writes its count of reads, for AllLanes, and no other part (R264). -/
theorem writes_raCode (h : L = .allLanes → Part.regcalCount.WrittenBy i) :
    Writes i (raCode c L) := by
  cases L with
  | lane l => simp [raCode]
  | allLanes =>
    have hcount := h rfl
    by_cases hd : durationOf c .tRegcalPoll = 0
    · simpa [raCode, hd, opParts, opOf, preParts, actParts, useParts, postParts] using hcount
    · simpa [raCode, hd, opParts, opOf, preParts, actParts, useParts, postParts] using hcount

theorem writes_recoverCode : Writes (.recover L) (recoverCode c L .host) := by
  have ho : Part.orchestrator.WrittenBy (.recover L) := ⟨L, rfl⟩
  have hra : Writes (.recover L) (raCode c L) := writes_raCode c L fun h => h ▸ rfl
  have haz : Writes (.recover L) (azCode c L) := writes_azCode c L ⟨L, .inr rfl⟩
  have hlock : Writes (.recover L) (lockCode c L) :=
    writes_lockCode c L fun l hl => ⟨L, .inr rfl, hl⟩
  simp only [recoverCode, writes_append]
  exact ⟨⟨⟨hra.withPre _ ho, haz.withPre _ ho⟩, (writes_acqCode c L).withPre _ ho⟩,
    hlock.withPre _ ho⟩

/-- The procedure of a command writes only its own parts. -/
theorem writes_codeOf (a d : Word) (i : Instr) : Writes i (codeOf c a d i) := by
  cases i with
  | probe =>
    simp [codeOf, probeCode, actParts, useParts, Part.WrittenBy]
  | detach => exact writes_nil
  | regRead => simp [codeOf, regReadCode, actParts, useParts, Part.WrittenBy]
  | regWrite => simp [codeOf, regWriteCode, actParts, postParts]
  | assertRxReset L | assertTxCoreReset L | assertTxPllReset L | assertRxPowerdown L =>
    exact writes_assertSeq c _ L
  | deassertRxReset L | deassertTxCoreReset L | deassertTxPllReset L | deassertRxPowerdown L =>
    exact writes_deassertSeq c _ L
  | disableLolMonitor L =>
    show Writes _ (lolDisableSeq c L)
    unfold lolDisableSeq
    split
    · exact writes_assertSeq c _ L
    · exact writes_deassertSeq c _ L
  | toggleReset d L => exact writes_toggleSeq c _ L
  | runAutozero L => exact writes_azCode c L ⟨L, .inl rfl⟩
  | runFreqPll L => exact writes_fpCode c L fun l hl => ⟨L, .inl rfl, hl⟩
  | txRestart l => exact writes_txRestartSeq c l
  | recover L => exact writes_recoverCode c L

end

/-! ### The parts a command writes -/

section

variable {i : Instr} {p : Part}

/-- Attaching sets the binding and what PROBE alone writes (R292). -/
theorem same_attach (hprobing : p ≠ .probing) (hbound : p ≠ .bound) (s : State) :
    p.Same s (attach s) := by
  unfold attach
  dsimp only
  cases p with
  | probing => exact absurd rfl hprobing
  | bound => exact absurd rfl hbound
  | _ => split <;> rfl

/-- The final updates of a command write only its own parts (R262, R290, R293). -/
theorem same_finalOf (h : ¬ p.WrittenBy i) (o : RecoveryOutcome) (s : State) :
    p.Same s (finalOf i o s) := by
  cases i with
  | probe =>
    show p.Same s (if o = .success then attach s else s)
    split
    · exact same_attach (by rintro rfl; exact h rfl) (by rintro rfl; exact h (.inl rfl)) s
    · cases p <;> rfl
  | detach =>
    cases p with
    | bound => exact absurd (.inr rfl) h
    | _ => rfl
  | recover L =>
    show p.Same s (recoverEnd o s)
    unfold recoverEnd
    cases p with
    | orchestrator => exact absurd ⟨L, rfl⟩ h
    | _ => split <;> rfl
  | _ => cases p <;> rfl

/-- A step of a command leaves every part that the command does not write. -/
theorem same_hostAdvance (h : ¬ p.WrittenBy i) (a d : Word) (inv : Invocation) (s : State) :
    p.Same s (hostAdvance i (fun c a d => codeOf c a d i) (finalOf i) a d inv s) := by
  have hend (o : RecoveryOutcome) (u : State) : p.Same u (finishHost i o (finalOf i o u)) :=
    (same_finalOf h o u).trans (same_finishHost i o _)
  unfold hostAdvance
  split
  next n hpos =>
    split
    next => exact hend _ _
    next op hop =>
      have hop : p ∉ opParts op :=
        fun hp => h (writes_codeOf (cfgOf s) a d i op (List.mem_of_getElem? hop) p hp)
      exact same_perform hop same_goTo (fun t => (same_setTransportFault t).trans (hend _ _)) _ _ _
  next => exact hend _ _
  next => exact hend _ _

theorem same_hostResume (h : ¬ p.WrittenBy i) (s : State) :
    p.Same s (hostResume i (fun c a d => codeOf c a d i) (finalOf i) s) := by
  have hrefl : p.Same s s := by cases p <;> rfl
  unfold hostResume
  split
  next inv hinv =>
    split
    next =>
      split
      · exact same_hostAdvance h _ _ _ _
      · exact hrefl
    next => exact hrefl
    next => exact hrefl
  next => exact hrefl

/-- `exec` leaves every part that the command does not write, in every state. -/
theorem same_of_exec {s t : State} (h : ¬ p.WrittenBy i) (ht : exec i s = .next t) : p.Same s t := by
  rw [exec_eq] at ht
  cases ht
  split
  · exact (same_beginHost i s).trans (same_hostResume h _)
  · exact same_hostResume h s

end

/-- A trim cache is its four words. -/
theorem vco_eq_of_vcoGet {x y : VcoTable} (h : ∀ l, vcoGet x l = vcoGet y l) : x = y := by
  obtain ⟨x0, x1, x2, x3⟩ := x
  obtain ⟨y0, y1, y2, y3⟩ := y
  rw [VcoTable.mk.injEq]
  exact ⟨h .l0, h .l1, h .l2, h .l3⟩

/-- Settles O46: each clause is one part of the state, left alone by the commands that do not write
it. -/
theorem execFrame : Obligations.ExecFrame := by
  intro i s t ht
  have same (p : Part) (h : ¬ p.WrittenBy i) : p.Same s t := same_of_exec h ht
  refine ⟨?_, fun h => ?_, ?_, fun h g => same .result (not_or.mpr ⟨h, g⟩),
    fun h g => same .bound (not_or.mpr ⟨h, g⟩), fun h => ?_, fun L l hi hl => ?_, fun h => ?_,
    fun h => ?_, fun h => same .regcalCount h⟩
  · simpa [Part.Same] using same .fixed id
  · simpa [Part.Same] using same .probing h
  · simpa [Part.Same] using same .levels id
  · exact vco_eq_of_vcoGet fun l => same (.trim l) fun ⟨L, hi, _⟩ => hi.elim (h L).1 (h L).2
  · refine same (.trim l) fun ⟨L', hi', hl'⟩ => hl ?_
    obtain rfl : L' = L := by rcases hi with rfl | rfl <;> simp_all
    exact hl'
  · simpa [Part.Same] using same .orchestrator fun ⟨L, hi⟩ => h L hi
  · exact same .azCount fun ⟨L, hi⟩ => hi.elim (h L).1 (h L).2

/-! ## The Register Access Port commands -/

/-- A command whose one transaction is the event `e` leaves what `completed` says (R143). -/
theorem finish_transaction {e : Event} (he : isTransaction e = true) (i : Instr)
    (o : RecoveryOutcome) (s : State) :
    finish i o (record e (drawReply (record (.began .host (kindOf i) (laneOperand i)) s))) =
      completed i o [e] s := by
  have htail : s.phy.tail = s.phy.drop 1 := List.drop_one.symm
  have hone : transactions [e] = 1 := by simp [transactions, he]
  have hnone : waited (cfgOf s) [e] = 0 := by
    cases e with
    | rd _ _ | rdFail _ | wr _ _ | wrFail _ _ => rfl
    | _ => cases he
  simp [finish, completed, hone, hnone, record, drawReply]

section

variable {c : Cfg} {a d : Word} {s : State}

/-- REG_READ's one primitive reads the word at its address into RESULT (R144). -/
theorem regRead_advances {v : Word} (h : nextReply s = .ok v) :
    Advances (codeOf c a d .regRead) (startOf .regRead a d, s)
      ({ startOf .regRead a d with pos := .run 1 },
        { record (.rd a v) (drawReply s) with result := v }) :=
  .goes rfl rfl fun go fail => by
    rw [perform_read (a := a) (u := .result) rfl, h]
    rfl

/-- REG_WRITE's one primitive writes its word at its address (R145). -/
theorem regWrite_advances {v : Word} (h : nextReply s = .ok v) :
    Advances (codeOf c a d .regWrite) (startOf .regWrite a d, s)
      ({ startOf .regWrite a d with pos := .run 1 }, record (.wr a d) (drawReply s)) :=
  .goes rfl rfl fun go fail => by
    rw [perform_write (a := a) (w := d) rfl, h]
    rfl

theorem regRead_fails (h : nextReply s = .fail) :
    Fails (codeOf c a d .regRead) (startOf .regRead a d, s) .transportError
      (setTransportFault (record (.rdFail a) (drawReply s))) :=
  .transport rfl rfl fun go fail => by
    rw [perform_read (a := a) (u := .result) rfl, h]
    rfl

theorem regWrite_fails (h : nextReply s = .fail) :
    Fails (codeOf c a d .regWrite) (startOf .regWrite a d, s) .transportError
      (setTransportFault (record (.wrFail a d) (drawReply s))) :=
  .transport rfl rfl fun go fail => by
    rw [perform_write (a := a) (w := d) rfl, h]
    rfl

end

/-- An accepted command whose one primitive succeeds completes in two steps. -/
theorem execTimes_two_of_advances {i : Instr} {a d : Word} {inv : Invocation} {s u : State}
    (hs : Ready i a d s)
    (h : Advances (codeOf (cfgOf s) a d i)
      (startOf i a d, record (.began .host (kindOf i) (laneOperand i)) s) (inv, u))
    (hpos : inv.pos = .run (codeOf (cfgOf s) a d i).length) :
    execTimes 2 i s = .next (finish i .success (lastUpdates i .success u)) := by
  have hstart : HostAt (cfgOf s) i a d
      (startOf i a d, record (.began .host (kindOf i) (laneOperand i)) s) := ⟨rfl, rfl⟩
  rw [execTimes_succ ((exec_ready_eq hs).trans (exec_of_advances hstart h)),
    execTimes_succ (exec_of_over (hstart.walks (.single h)) hpos)]
  rfl

/-- An accepted command that fails at once completes in the step that begins it. -/
theorem exec_ready_of_fails {i : Instr} {a d : Word} {o : RecoveryOutcome} {s u : State}
    (hs : Ready i a d s)
    (h : Fails (codeOf (cfgOf s) a d i)
      (startOf i a d, record (.began .host (kindOf i) (laneOperand i)) s) o u) :
    exec i s = .next (finish i o (lastUpdates i o u)) :=
  (exec_ready_eq hs).trans
    (exec_of_fails (c := cfgOf s) (x := (startOf i a d, _)) ⟨rfl, rfl⟩ h)

/-- Settles O29: the one primitive of REG_READ, then its end; or the failure of that primitive. -/
theorem regReadResult : Obligations.RegReadResult := by
  refine fun a d s hs => ⟨fun v hv => ?_, fun hf => ?_⟩
  · rw [← nextReply_eq_replyAt] at hv
    rw [execTimes_two_of_advances hs (regRead_advances hv) rfl,
      ← finish_transaction (e := .rd a v) rfl]
    rfl
  · rw [← nextReply_eq_replyAt] at hf
    rw [exec_ready_of_fails hs (regRead_fails hf), ← finish_transaction (e := .rdFail a) rfl]
    rfl

/-- Settles O30: the one primitive of REG_WRITE, then its end; or the failure of that primitive. -/
theorem regWriteResult : Obligations.RegWriteResult := by
  refine fun a d s hs => ⟨fun v hv => ?_, fun hf => ?_⟩
  · rw [← nextReply_eq_replyAt] at hv
    rw [execTimes_two_of_advances hs (regWrite_advances hv) rfl,
      ← finish_transaction (e := .wr a d) rfl]
    rfl
  · rw [← nextReply_eq_replyAt] at hf
    rw [exec_ready_of_fails hs (regWrite_fails hf), ← finish_transaction (e := .wrFail a d) rfl]
    rfl

end Sys2Proof.Machine
end

section
/-! The Reset Controller's statements (spec/41_reset_controller): the targets of a domain, what the
reset commands and the toggle do to a PHY that answers, and what they leave in one that keeps what is
written to it. -/

namespace Sys2Proof.Machine

open Reference

/-! ## Reset targets -/

/-- Settles O7: a lane's one pair by the form of `LT[d]`, the pairs of all lanes by the form of
`AT[d]`, and bits 15, 10 and 11 of MRST. -/
theorem resetTargets : Obligations.ResetTargets := by
  refine fun c d => ⟨fun l base k h => ?_, fun l addr off h => ?_, fun addr k h => ?_,
    fun addr off h => ?_, fun h => ?_, rfl, rfl, rfl⟩
  · simp only [targets, laneTargetPair, h, laneAddr_eq, bit]
  · simp only [targets, laneTargetPair, h, bit]
  · simp only [targets, h, bit]
  · simp only [targets, h]
  · simp only [targets, h]
    rfl

/-! ## Completed primitives -/

/-- The state after primitives that complete with the events `es`: each transaction has taken its
answer and each Wait its time (R12, R74, R75). -/
def played (es : List Event) (s : State) : State :=
  { s with
    trace := es.reverse ++ s.trace
    phy := s.phy.drop (transactions es)
    draws := s.draws + transactions es
    now := s.now + waited (cfgOf s) es }

section

variable {es es' : List Event} {s : State} {f : Nat → Word} {n m : Nat}

@[simp] theorem transactions_nil : transactions [] = 0 := rfl

theorem transactions_append : transactions (es ++ es') = transactions es + transactions es' := by
  simp [transactions]

theorem transactions_cons {e : Event} :
    transactions (e :: es) = (if isTransaction e then 1 else 0) + transactions es := by
  cases he : isTransaction e <;> simp [transactions, he, Nat.add_comm]

theorem waited_append {c : Cfg} : waited c (es ++ es') = waited c es + waited c es' := by
  induction es with
  | nil => simp [waited]
  | cons e es ih => cases e <;> simp [waited, ih, Nat.add_assoc]

@[simp] theorem transactions_waitEvents {c : Cfg} {t : Delay} :
    transactions (waitEvents c t) = 0 := by
  unfold waitEvents
  split <;> rfl

@[simp] theorem played_trace : (played es s).trace = es.reverse ++ s.trace := rfl

theorem played_append : played (es ++ es') s = played es' (played es s) := by
  simp [played, transactions_append, waited_append, Nat.add_assoc]

theorem replyAt_played (k : Nat) : replyAt (played es s) k = replyAt s (transactions es + k) := by
  simp [replyAt, played, Nat.add_assoc]

/-- After some completed transactions the answers left are the later ones. -/
theorem answered_played (h : Answered s n f) (hn : transactions es + m ≤ n) :
    Answered (played es s) m (shift (transactions es) f) := by
  intro k hk
  rw [replyAt_played, h _ (by omega)]
  rfl

/-- A transaction that completes takes its answer and has its event (R74, R75). -/
theorem record_drawReply {e : Event} (he : isTransaction e = true) :
    record e (drawReply s) = played [e] s := by
  have hwaited : waited (cfgOf s) [e] = 0 := by
    cases e with
    | rd _ _ | rdFail _ | wr _ _ | wrFail _ _ => rfl
    | _ => cases he
  simp [played, transactions_cons, he, hwaited, record, drawReply]

/-- Completed primitives between a command's Begin event and its end leave what `completed` says. -/
theorem finish_played (i : Instr) (o : RecoveryOutcome) :
    finish i o (played es (record (.began .host (kindOf i) (laneOperand i)) s)) =
      completed i o es s := rfl

end

/-! ## Pieces of pseudocode that are answered -/

/-- From `s` the piece returns `x` after completed primitives with the events `es`. -/
def Yields {α : Type} (p : Piece α) (s : State) (es : List Event) (x : α) : Prop :=
  p s = some (.ok x, played es s)

section

variable {α β : Type} {p : Piece α} {g : α → Piece β} {s : State} {es es' : List Event} {x : α}
  {y : β} {a v w : Word}

theorem Yields.andThen (hp : Yields p s es x) (hg : Yields (g x) (played es s) es' y) :
    Yields (andThen p g) s (es ++ es') y := by
  unfold Yields at *
  rw [played_append]
  simp only [Reference.andThen, hp, hg]

theorem yields_value : Yields (value x) s [] x := rfl

theorem yields_read (h : replyAt s 0 = .ok v) : Yields (read a) s [.rd a v] v := by
  rw [← nextReply_eq_replyAt] at h
  simp only [Yields, Reference.read, memRead_ok h, record_drawReply (e := .rd a v) rfl]

theorem yields_write (h : replyAt s 0 = .ok v) : Yields (write a w) s [.wr a w] () := by
  rw [← nextReply_eq_replyAt] at h
  simp only [Yields, Reference.write, memWrite_ok h, record_drawReply (e := .wr a w) rfl]

/-- A Wait, which has no event where its length is 0 (R12). -/
theorem yields_wait (t : Delay) : Yields (wait t) s (waitEvents (cfgOf s) t) () := by
  unfold Yields waitEvents wait
  split
  · rfl
  · simp [played, waitFor, record, transactions, isTransaction, waited]

end

/-- The events of a loop whose body has the events `e x` and `k` transactions for each element. -/
def eachEvents {α : Type} (k : Nat) (e : α → (Nat → Word) → List Event) :
    List α → (Nat → Word) → List Event
  | [], _ => []
  | x :: xs, f => e x f ++ eachEvents k e xs (shift k f)

section

variable {α : Type} {k : Nat} {e : α → (Nat → Word) → List Event} {g : α → Piece Unit} {c : Cfg}

/-- A loop that is answered. -/
theorem yields_forEach (hk : ∀ x f, transactions (e x f) = k)
    (hg : ∀ x f s, cfgOf s = c → Answered s k f → Yields (g x) s (e x f) ())
    (xs : List α) {f : Nat → Word} {s : State} (hc : cfgOf s = c)
    (h : Answered s (k * xs.length) f) : Yields (forEach xs g) s (eachEvents k e xs f) () := by
  induction xs generalizing f s with
  | nil => exact yields_value
  | cons x xs ih =>
    rw [List.length_cons, Nat.mul_add_one, Nat.add_comm] at h
    have hrest : Answered (played (e x f) s) (k * xs.length) (shift k f) :=
      hk x f ▸ answered_played h (by rw [hk])
    have hfirst : Answered s k f := fun j hj => h j (by omega)
    exact (hg x f s hc hfirst).andThen (ih hc hrest)

end

/-! ## The steps of a command whose primitives complete -/

section

variable {code : List MicroOp} {c : Cfg} {i : Instr} {a d : Word} {x y : Invocation × State}
  {s : State}

/-- A completed primitive has one event. -/
theorem Advances.trace (h : Advances code x y) : ∃ e, y.2.trace = e :: x.2.trace := by
  obtain @⟨n, op, p, inv, inv', s, t, -, -, hgoes⟩ := h
  rcases perform_shape op n inv goTo release s with
    ⟨e, p', inv'', u, heq, -, htrace, -⟩ | ⟨_, heq, -⟩
  · have hsame := congrArg State.trace ((hgoes goTo release).symm.trans heq)
    exact ⟨e, hsame.trans htrace⟩
  · have hinv := congrArg State.inv ((hgoes goTo release).symm.trans heq)
    simp at hinv

/-- Primitives that complete are as many steps of the command as events (R16). -/
theorem execTimes_of_walks_events (hx : HostAt c i a d x) (h : Walks (codeOf c a d i) x y) :
    ∃ n, y.2.trace.length = x.2.trace.length + n ∧
      execTimes n i (holding .host x.1 x.2) = .next (holding .host y.1 y.2) := by
  induction h with
  | refl => exact ⟨0, rfl, rfl⟩
  | tail hw hstep ih =>
    obtain ⟨n, hlen, hn⟩ := ih
    obtain ⟨e, htrace⟩ := hstep.trace
    refine ⟨n + 1, by rw [htrace, List.length_cons, hlen, Nat.add_assoc], ?_⟩
    rw [execTimes_add hn, execTimes_succ (exec_of_advances (hx.walks hw) hstep)]
    rfl

/-- The steps of the accepted command are its steps as it runs. -/
theorem execTimes_ready_eq (hs : Ready i a d s) (n : Nat) : execTimes (n + 1) i s =
    execTimes (n + 1) i (holding .host (startOf i a d)
      (record (.began .host (kindOf i) (laneOperand i)) s)) := by
  rw [execTimes, exec_ready_eq hs]
  rfl

/-- An accepted command whose pseudocode returns with `n` events is finished in `n` steps and the
final one. -/
theorem execTimes_of_body {fuel n : Nat} {u : State} (hs : Ready i a d s)
    (hbody : body fuel (cfgOf s) a d i (record (.began .host (kindOf i) (laneOperand i)) s) =
      some (.ok (), u)) (hn : u.trace.length = s.trace.length + 1 + n) :
    execTimes (n + 1) i s = .next (finish i .success (lastUpdates i .success u)) := by
  obtain ⟨inv, hw, hpos, -⟩ := follows_codeOf (c := cfgOf s) fuel a d i _ 0 (.self _)
    (startOf i a d) (record (.began .host (kindOf i) (laneOperand i)) s) _ u rfl trivial rfl hbody
  rw [Nat.zero_add] at hpos
  have hstart : HostAt (cfgOf s) i a d
      (startOf i a d, record (.began .host (kindOf i) (laneOperand i)) s) := ⟨rfl, rfl⟩
  obtain ⟨k, hlen, hk⟩ := execTimes_of_walks_events hstart hw
  obtain rfl : k = n := by
    simp only [record_trace, List.length_cons] at hlen
    omega
  rw [execTimes_ready_eq hs, execTimes_add hk, execTimes_succ (exec_of_over (hstart.walks hw) hpos)]
  rfl

/-- An accepted command whose pseudocode only performs primitives, all completing, leaves what
`completed` says, the command having no last updates of its own. -/
theorem execTimes_of_yields {fuel : Nat} {es : List Event} (hs : Ready i a d s)
    (hlast : ∀ u, lastUpdates i .success u = u)
    (h : Yields (body fuel (cfgOf s) a d i)
      (record (.began .host (kindOf i) (laneOperand i)) s) es ()) :
    execTimes (es.length + 1) i s = .next (completed i .success es s) := by
  have hlen : (played es (record (.began .host (kindOf i) (laneOperand i)) s)).trace.length =
      s.trace.length + 1 + es.length := by
    rw [played_trace, record_trace, List.length_append, List.length_reverse, List.length_cons,
      Nat.add_comm]
  rw [execTimes_of_body hs h hlen, hlast, finish_played]

end

/-! ## The read-modify-writes (R172, R173) and the toggle (R183) -/

/-- The word a read-modify-write of the mask `m` writes for the word `v` read. -/
def rmwWord (setting : Bool) (m v : Word) : Word := if setting then set v m else clear v m

/-- R172 and R173 in one: a read-modify-write of a target. -/
def rmw (setting : Bool) (t : Word × Word) : Piece Unit :=
  andThen (read t.1) fun v => write t.1 (rmwWord setting t.2 v)

/-- R172 and R173: the events of a read-modify-write of a target. -/
def rmwEvent (setting : Bool) (t : Word × Word) (f : Nat → Word) : List Event :=
  [.rd t.1 (f 0), .wr t.1 (rmwWord setting t.2 (f 0))]

/-- R183: the toggle of a target. -/
def toggleOne (t : Word × Word) : Piece Unit :=
  andThen (read t.1) fun v0 =>
  andThen (write t.1 (set v0 t.2)) fun _ =>
  andThen (wait .tToggle) fun _ => write t.1 v0

/-- R183: the events of the toggle of a target. -/
def toggleEvent (c : Cfg) (t : Word × Word) (f : Nat → Word) : List Event :=
  [.rd t.1 (f 0)] ++ ([.wr t.1 (set (f 0) t.2)] ++ (waitEvents c .tToggle ++ [.wr t.1 (f 0)]))

section

variable {c : Cfg} {i : Instr} {a d : Word} {dom : Domain} {L : LaneId} {setting : Bool}
  {t : Word × Word} {f : Nat → Word} {s : State}

theorem forEach_rmw_true : forEach (targets c dom L) (rmw true) = assertBits c dom L := rfl

theorem forEach_rmw_false : forEach (targets c dom L) (rmw false) = deassertBits c dom L := rfl

theorem forEach_toggleOne : forEach (targets c dom L) toggleOne = toggle c dom L := rfl

theorem rmwEvents_eq (ts : List (Word × Word)) :
    rmwEvents setting ts f = eachEvents 2 (rmwEvent setting) ts f := by
  induction ts generalizing f with
  | nil => rfl
  | cons t ts ih =>
    rw [eachEvents, ← ih]
    rfl

theorem toggleEvents_eq (ts : List (Word × Word)) :
    toggleEvents c ts f = eachEvents 3 (toggleEvent c) ts f := by
  induction ts generalizing f with
  | nil => rfl
  | cons t ts ih =>
    simp only [eachEvents, toggleEvents, ih, toggleEvent, set, List.append_assoc,
      List.cons_append, List.nil_append]

theorem rmwEvents_length (ts : List (Word × Word)) :
    (rmwEvents setting ts f).length = 2 * ts.length := by
  induction ts generalizing f with
  | nil => rfl
  | cons t ts ih => simp [rmwEvents, ih, Nat.mul_add]

theorem transactions_toggleEvent : transactions (toggleEvent c t f) = 3 := by
  simp [toggleEvent, transactions_append, transactions_cons, isTransaction]

theorem yields_rmw (h : Answered s 2 f) : Yields (rmw setting t) s (rmwEvent setting t f) () :=
  (yields_read (h 0 (by omega))).andThen
    (yields_write ((replyAt_played 0).trans (h 1 (by omega))))

theorem yields_toggleOne (h : Answered s 3 f) :
    Yields (toggleOne t) s (toggleEvent (cfgOf s) t f) () := by
  refine (yields_read (h 0 (by omega))).andThen <|
    (yields_write ((replyAt_played 0).trans (h 1 (by omega)))).andThen <|
    (yields_wait .tToggle).andThen (yields_write (v := f 2) ?_)
  rw [replyAt_played, transactions_waitEvents, replyAt_played, replyAt_played]
  exact h 2 (by omega)

/-- The pseudocode of each of the nine commands is its read-modify-writes (R174 to R182). -/
theorem body_of_rmwOf {fuel : Nat} (h : rmwOf c i = some (dom, L, setting)) :
    body fuel c a d i = forEach (targets c dom L) (rmw setting) := by
  cases i with
  | probe | detach | regRead | regWrite | toggleReset _ _ | runAutozero _ | runFreqPll _
  | txRestart _ | recover _ => cases h
  | disableLolMonitor L' =>
    cases h
    cases hp : c.loldisSet with
    | false => exact (if_neg (by simp [hp])).trans forEach_rmw_false.symm
    | true => exact (if_pos hp).trans forEach_rmw_true.symm
  | _ => cases h; rfl

theorem lastUpdates_of_rmwOf (h : rmwOf c i = some (dom, L, setting)) (o : RecoveryOutcome)
    (u : State) : lastUpdates i o u = u := by
  cases i with
  | probe | detach | recover _ => cases h
  | _ => rfl

end

/-- Settles O33: each of the nine commands is a loop of read-modify-writes, each of two steps. -/
theorem resetCommandResult : Obligations.ResetCommandResult := by
  intro i dom L setting a d f s hrmw hs hf
  rw [← rmwEvents_length (setting := setting) (f := f)]
  refine execTimes_of_yields (fuel := 0) hs (lastUpdates_of_rmwOf hrmw .success) ?_
  rw [body_of_rmwOf hrmw, rmwEvents_eq]
  exact yields_forEach (k := 2) (c := cfgOf s) (fun _ _ => rfl) (fun _ _ _ _ => yields_rmw) _ rfl hf

/-- Settles O35: a toggle is a loop of a read, two writes and the Wait between them. -/
theorem toggleResult : Obligations.ToggleResult := by
  intro dm L a d f s ts hs hf
  refine execTimes_of_yields (fuel := 0) hs (fun _ => rfl) ?_
  rw [toggleEvents_eq, body, ← forEach_toggleOne]
  exact yields_forEach (c := cfgOf s) (fun _ _ => transactions_toggleEvent)
    (fun _ _ _ hc h => hc ▸ yields_toggleOne h) _ rfl hf

/-! ## The words of read-modify-writes -/

section

variable {setting : Bool} {k m v : Word}

theorem rmwWord_true : rmwWord true m v = v ||| m := rfl

theorem rmwWord_false : rmwWord false m v = v &&& ~~~m := rfl

theorem rmwWord_zero : rmwWord setting 0#16 v = v := by
  cases setting with
  | false => rw [rmwWord_false, BitVec.not_zero, BitVec.and_allOnes]
  | true => rw [rmwWord_true, BitVec.or_zero]

/-- Two read-modify-writes of one word are one with both masks. -/
theorem rmwWord_rmwWord : rmwWord setting k (rmwWord setting m v) = rmwWord setting (m ||| k) v := by
  cases setting with
  | false => simp only [rmwWord_false, BitVec.not_or, BitVec.and_assoc]
  | true => simp only [rmwWord_true, BitVec.or_assoc]

/-- A second read-modify-write of the same kind changes nothing. -/
theorem rmwWord_idem : rmwWord setting m (rmwWord setting m v) = rmwWord setting m v := by
  rw [rmwWord_rmwWord, BitVec.or_self]

/-- Bits that were set and then cleared are clear. -/
theorem rmwWord_false_true : rmwWord false m (rmwWord true m v) = v &&& ~~~m := by
  simp only [rmwWord_false, rmwWord_true, BitVec.eq_of_getElem_eq_iff, BitVec.getElem_and,
    BitVec.getElem_or, BitVec.getElem_not]
  intro j hj
  cases m[j] <;> simp

theorem and_not_eq_self_iff : v &&& ~~~m = v ↔ v &&& m = 0#16 := by
  simp only [BitVec.eq_of_getElem_eq_iff]
  refine forall_congr' fun j => forall_congr' fun hj => ?_
  cases hv : v[j] <;> simp [hv]

end

/-! ## A PHY that keeps what is written to it (R185) -/

section

variable {es es' : List Event} {m m' : Word → Word} {setting : Bool} {c : Cfg} {t : Word × Word}
  {f : Nat → Word}

theorem replay_append : replay (es ++ es') m = (replay es m).bind (replay es') := by
  induction es generalizing m with
  | nil => rfl
  | cons e es ih =>
    cases e with
    | rd a v =>
      simp only [List.cons_append, replay]
      split
      · exact ih
      · rfl
    | rdFail _ | wrFail _ _ => rfl
    | _ => exact ih

/-- The events by which a whole command extends the trace, newest first (R142, R143). -/
def commandEvents (i : Instr) (o : RecoveryOutcome) (es : List Event) : List Event :=
  .ended .host (kindOf i) (laneOperand i) o ::
    (es.reverse ++ [.began .host (kindOf i) (laneOperand i)])

theorem completed_trace (i : Instr) (o : RecoveryOutcome) (s : State) :
    (completed i o es s).trace = commandEvents i o es ++ s.trace := by
  simp [completed, commandEvents]

theorem replay_commandEvents (i : Instr) (o : RecoveryOutcome) :
    replay (commandEvents i o es).reverse m = replay es m := by
  simp [commandEvents, replay, replay_append]

/-- A read-modify-write changes its target's register, by its mask. -/
theorem replay_rmwEvent (h : replay (rmwEvent setting t f) m = some m') (x : Word) :
    m' x = if t.1 = x then rmwWord setting t.2 (m x) else m x := by
  simp only [rmwEvent, replay] at h
  split at h
  next hread =>
    cases h
    rw [← hread]
    split
    next hx =>
      subst hx
      exact if_pos rfl
    next hx => exact if_neg (Ne.symm hx)
  next => cases h

/-- Read-modify-writes change each register by all the bits their targets have there. -/
theorem replay_rmwEvents {ts : List (Word × Word)} (h : replay (rmwEvents setting ts f) m = some m')
    (x : Word) : m' x = rmwWord setting (maskAt ts x) (m x) := by
  rw [rmwEvents_eq] at h
  induction ts generalizing f m with
  | nil =>
    cases h
    exact rmwWord_zero.symm
  | cons t ts ih =>
    rw [eachEvents, replay_append, Option.bind_eq_some_iff] at h
    obtain ⟨m1, hfirst, hrest⟩ := h
    rw [ih hrest, replay_rmwEvent hfirst, maskAt]
    split
    · exact rmwWord_rmwWord
    · rfl

theorem replay_waitEvents (d : Delay) : replay (waitEvents c d) m = some m := by
  unfold waitEvents
  split <;> rfl

/-- A toggle leaves its target's register as it was. -/
theorem replay_toggleEvent (h : replay (toggleEvent c t f) m = some m') : m' = m := by
  simp only [toggleEvent, replay_append, replay_waitEvents, replay, Option.bind_some] at h
  split at h
  next hread =>
    cases h
    funext x
    split
    next hx => rw [hx, hread]
    next => rfl
  next => cases h

theorem replay_toggleEvents {ts : List (Word × Word)}
    (h : replay (toggleEvents c ts f) m = some m') : m' = m := by
  rw [toggleEvents_eq] at h
  induction ts generalizing f m with
  | nil =>
    cases h
    rfl
  | cons t ts ih =>
    rw [eachEvents, replay_append, Option.bind_eq_some_iff] at h
    obtain ⟨m1, hfirst, hrest⟩ := h
    exact (ih hrest).trans (replay_toggleEvent hfirst)

end

/-- Settles O34: by the results of the commands, their events replay as the read-modify-writes of
the registers' words. -/
theorem roundTripLaws : Obligations.RoundTripLaws := by
  refine ⟨fun dm L a d f s hs hf => ?_, ?_⟩
  · refine ⟨_, _, _, toggleResult dm L a d f s hs hf, rfl, rfl, completed_trace .., ?_⟩
    intro m m' h
    rw [replay_commandEvents] at h
    exact replay_toggleEvents h
  · intro i j dom L b1 b2 a1 d1 a2 d2 f1 f2 s1 s2 hi hj hconf hs1 hs2 hf1 hf2 k
    have hc : cfgOf s2 = cfgOf s1 := congrArg WfCfg.cfg hconf
    rw [← hc] at hj hf2
    refine ⟨_, _, _, _, _, _, resetCommandResult i dom L b1 a1 d1 f1 s1 hi hs1 hf1, rfl, rfl,
      completed_trace .., resetCommandResult j dom L b2 a2 d2 f2 s2 hj hs2 hf2, rfl, rfl,
      completed_trace .., fun m0 m1 m2 h1 h2 => ?_⟩
    rw [replay_commandEvents] at h1 h2
    rw [hc] at h2
    have hm1 : ∀ x, m1 x = rmwWord b1 (k x) (m0 x) := replay_rmwEvents h1
    have hm2 : ∀ x, m2 x = rmwWord b2 (k x) (m1 x) := replay_rmwEvents h2
    constructor
    · rintro rfl rfl
      have hclear : ∀ x, m2 x = m0 x &&& ~~~k x := fun x => by
        rw [hm2, hm1]
        exact rmwWord_false_true
      refine ⟨hclear, ?_⟩
      simp only [funext_iff, hclear, and_not_eq_self_iff]
    · rintro rfl
      funext x
      rw [hm2, hm1]
      exact rmwWord_idem

end Sys2Proof.Machine
end

section
/-! The statements of the Auto-Zero Calibration Stage (spec/42_autozero): the events of a stage that
is answered, its first done attempt or its timeout, and how many transactions and Waits it costs. -/

namespace Sys2Proof.Machine

open Reference

/-! ## Events that are transactions -/

/-- Each of some events is a transaction. -/
def AllTransactions (es : List Event) : Prop := ∀ e ∈ es, isTransaction e = true

section

variable {α : Type} {es es' : List Event} {c : Cfg} {f : Nat → Word}

theorem AllTransactions.append (h : AllTransactions es) (h' : AllTransactions es') :
    AllTransactions (es ++ es') :=
  List.forall_mem_append.mpr ⟨h, h'⟩

theorem AllTransactions.flatMap {e : α → List Event} (h : ∀ x, AllTransactions (e x))
    (xs : List α) : AllTransactions (xs.flatMap e) := by
  intro y hy
  obtain ⟨x, -, hx⟩ := List.mem_flatMap.mp hy
  exact h x y hx

/-- One event that is a transaction for each element. -/
theorem AllTransactions.map {e : α → Event} (h : ∀ x, isTransaction (e x) = true) (xs : List α) :
    AllTransactions (xs.map e) :=
  List.forall_mem_map.mpr fun x _ => h x

theorem AllTransactions.transactions_eq (h : AllTransactions es) : transactions es = es.length :=
  congrArg List.length (List.filter_eq_self.mpr h)

theorem AllTransactions.waits_eq (h : AllTransactions es) : waits es = 0 := by
  induction es with
  | nil => rfl
  | cons e es ih =>
    obtain ⟨he, hes⟩ := List.forall_mem_cons.mp h
    cases e with
    | rd _ _ | rdFail _ | wr _ _ | wrFail _ _ => exact ih hes
    | _ => cases he

theorem waits_append : waits (es ++ es') = waits es + waits es' := by
  induction es with
  | nil => simp [waits]
  | cons e es ih => cases e <;> simp [waits, ih, Nat.add_right_comm]

theorem waits_reverse : waits es.reverse = waits es := by
  induction es with
  | nil => rfl
  | cons e es ih =>
    rw [List.reverse_cons, waits_append, ih, Nat.add_comm, ← waits_append]
    rfl

theorem transactions_reverse : transactions es.reverse = transactions es := by
  simp [transactions]

theorem waits_waitEvents {t : Delay} : waits (waitEvents c t) = (waitEvents c t).length := by
  unfold waitEvents
  split <;> rfl

theorem mem_waitEvents {t : Delay} {e : Event} (h : e ∈ waitEvents c t) : e = .wait t := by
  unfold waitEvents at h
  split at h
  · cases h
  · exact List.mem_singleton.mp h

/-! ## The events of an auto-zero stage -/

theorem rmwEvents_transactions {setting : Bool} (ts : List (Word × Word)) :
    AllTransactions (rmwEvents setting ts f) := by
  induction ts generalizing f with
  | nil => exact List.forall_mem_nil _
  | cons t ts ih =>
    exact List.forall_mem_cons.mpr ⟨rfl, List.forall_mem_cons.mpr ⟨rfl, ih⟩⟩

theorem transactions_rmwEvents {setting : Bool} (ts : List (Word × Word)) :
    transactions (rmwEvents setting ts f) = 2 * ts.length :=
  (rmwEvents_transactions ts).transactions_eq.trans (rmwEvents_length ts)

theorem readEvents_length {base : Word} (ls : List Lane) :
    (readEvents base ls f).length = ls.length := by
  induction ls generalizing f with
  | nil => rfl
  | cons l ls ih => rw [readEvents, List.length_cons, List.length_cons, ih]

theorem readEvents_transactions {base : Word} (ls : List Lane) :
    AllTransactions (readEvents base ls f) := by
  induction ls generalizing f with
  | nil => exact List.forall_mem_nil _
  | cons l ls ih => exact List.forall_mem_cons.mpr ⟨rfl, ih⟩

theorem snapshotEvents_length (as : List Word) :
    (snapshotEvents as f).length = 2 * as.length := by
  induction as generalizing f with
  | nil => rfl
  | cons a as ih => rw [snapshotEvents, List.length_cons, List.length_cons, ih]; rfl

theorem snapshotEvents_transactions (as : List Word) : AllTransactions (snapshotEvents as f) := by
  induction as generalizing f with
  | nil => exact List.forall_mem_nil _
  | cons a as ih =>
    exact List.forall_mem_cons.mpr ⟨rfl, List.forall_mem_cons.mpr ⟨rfl, ih⟩⟩

variable {t : VcoTable} {L : LaneId} {k : Nat}

theorem armEvents_transactions : AllTransactions (armEvents c t L f) :=
  ((((AllTransactions.map (fun _ => rfl) _).append (.map (fun _ => rfl) _)).append
    (List.forall_mem_singleton.mpr rfl)).append (rmwEvents_transactions _)).append
    (.flatMap (fun _ => List.forall_mem_cons.mpr ⟨rfl, List.forall_mem_singleton.mpr rfl⟩) _)

theorem transactions_armEvents : transactions (armEvents c t L f) = armCount c L := by
  rw [armEvents_transactions.transactions_eq]
  simp only [armEvents, armCount, width, List.length_append, List.length_map, List.length_flatMap,
    List.length_cons, List.length_nil, rmwEvents_length, List.map_const', List.sum_replicate,
    smul_eq_mul]
  omega

theorem pollEvents_transactions_or_wait {e : Event} (h : e ∈ pollEvents c L k f) :
    isTransaction e = true ∨ e = .wait .tAzPoll := by
  induction k using Nat.twoStepInduction generalizing f with
  | zero => cases h
  | one => exact .inl (readEvents_transactions _ e h)
  | more k _ ih =>
    simp only [pollEvents, List.mem_append] at h
    obtain (h | h) | h := h
    · exact .inl (readEvents_transactions _ e h)
    · exact .inr (mem_waitEvents h)
    · exact ih h

/-- An attempt reads each lane once (R202). -/
theorem transactions_reads : transactions (readEvents c.baseRxMain (lanes L) f) = width L :=
  (readEvents_transactions _).transactions_eq.trans (readEvents_length _)

theorem transactions_pollEvents : transactions (pollEvents c L k f) = k * width L := by
  induction k using Nat.twoStepInduction generalizing f with
  | zero => exact (Nat.zero_mul _).symm
  | one => exact transactions_reads.trans (Nat.one_mul _).symm
  | more k _ ih =>
    rw [pollEvents, transactions_append, transactions_append, transactions_reads,
      transactions_waitEvents, ih, Nat.add_zero, Nat.add_comm, ← Nat.succ_mul]

/-- A Wait stands between each two attempts (R202, R12). -/
theorem waits_pollEvents :
    waits (pollEvents c L k f) = (k - 1) * (waitEvents c .tAzPoll).length := by
  induction k using Nat.twoStepInduction generalizing f with
  | zero => exact (Nat.zero_mul _).symm
  | one => exact (readEvents_transactions _).waits_eq.trans (Nat.zero_mul _).symm
  | more k _ ih =>
    rw [pollEvents, waits_append, waits_append, (readEvents_transactions _).waits_eq,
      waits_waitEvents, ih, Nat.zero_add, Nat.add_comm]
    exact (Nat.succ_mul k _).symm

/-- R201, R202: the events of steps 1 to 5 and of `k` attempts. -/
def triedEvents (c : Cfg) (t : VcoTable) (L : LaneId) (k : Nat) (f : Nat → Word) : List Event :=
  armEvents c t L f ++ pollEvents c L k (shift (armCount c L) f)

/-- R203: the events of step 7. -/
def finishEvents (c : Cfg) (L : LaneId) (f : Nat → Word) : List Event :=
  snapshotEvents (snapshotAddrs c L) f ++ [.wr c.aSaOvrEn 0x0001#16]

theorem azEvents_eq : azEvents c t L k f =
    triedEvents c t L k f ++ finishEvents c L (shift (armCount c L + k * width L) f) :=
  List.append_assoc ..

theorem azTimeoutEvents_eq : azTimeoutEvents c t L f = triedEvents c t L 64 f := rfl

theorem triedEvents_transactions_or_wait {e : Event} (h : e ∈ triedEvents c t L k f) :
    isTransaction e = true ∨ e = .wait .tAzPoll :=
  (List.mem_append.mp h).elim (fun h => .inl (armEvents_transactions e h))
    pollEvents_transactions_or_wait

theorem transactions_triedEvents :
    transactions (triedEvents c t L k f) = armCount c L + k * width L := by
  rw [triedEvents, transactions_append, transactions_armEvents, transactions_pollEvents]

theorem waits_triedEvents :
    waits (triedEvents c t L k f) = (k - 1) * (waitEvents c .tAzPoll).length := by
  rw [triedEvents, waits_append, armEvents_transactions.waits_eq, waits_pollEvents, Nat.zero_add]

theorem snapshotAddrs_length :
    (snapshotAddrs c L).length = c.baseSaOfs.length * width L := by
  simp [snapshotAddrs, width, Nat.mul_comm]

theorem finishEvents_transactions : AllTransactions (finishEvents c L f) :=
  (snapshotEvents_transactions _).append (List.forall_mem_singleton.mpr rfl)

theorem transactions_finishEvents :
    transactions (finishEvents c L f) = 2 * (snapshotAddrs c L).length + 1 := by
  rw [finishEvents_transactions.transactions_eq, finishEvents, List.length_append,
    snapshotEvents_length, List.length_singleton]

end

/-! ## The auto-zero stage, answered (R201 to R204) -/

section

variable {α β : Type} {f : Nat → Word} {s : State} {es : List Event} {c : Cfg}

/-- A loop that is answered and uses none of the words it is answered with. -/
theorem yields_forEach_flatMap {k : Nat} {e : α → List Event} {g : α → Piece Unit} {t : VcoTable}
    (hk : ∀ x, transactions (e x) = k)
    (hg : ∀ x f s, s.vco = t → Answered s k f → Yields (g x) s (e x) ()) (xs : List α)
    (ht : s.vco = t) (h : Answered s (xs.length * k) f) :
    Yields (forEach xs g) s (xs.flatMap e) () := by
  induction xs generalizing f s with
  | nil => exact yields_value
  | cons x xs ih =>
    rw [List.length_cons, Nat.succ_mul] at h
    have hfirst : Answered s k f := fun j hj => h j (by omega)
    have hrest := answered_played (es := e x) (m := xs.length * k) h (by rw [hk]; omega)
    exact (hg x f s ht hfirst).andThen (ih ht hrest)

/-- One write for each lane, of a word that the trim cache may determine. -/
theorem yields_lanes {a : Lane → Word} {w : VcoTable → Lane → Word} (ls : List Lane)
    (h : Answered s ls.length f) :
    Yields (forEach ls fun i => fun s => write (a i) (w s.vco i) s) s
      (ls.map fun i => .wr (a i) (w s.vco i)) () := by
  rw [List.map_eq_flatMap]
  refine yields_forEach_flatMap (k := 1) (t := s.vco) (fun _ => rfl) (fun i f u ht hu => ?_) ls rfl
    (by rwa [Nat.mul_one])
  rw [← ht]
  exact yields_write (hu 0 Nat.one_pos)

/-- The two triggers of each lane (R201 step 5). -/
theorem yields_triggers (ls : List Lane) (h : Answered s (ls.length * 2) f) :
    Yields (forEach ls fun i => andThen (write (addrOf (rxMain c) i) 0x0410#16) fun _ =>
        write (addrOf (rxMain c) i) 0x0412#16) s
      (ls.flatMap fun i =>
        [.wr (laneAddr c.baseRxMain i) 0x0410#16, .wr (laneAddr c.baseRxMain i) 0x0412#16]) () :=
  yields_forEach_flatMap (k := 2) (t := s.vco) (fun _ => rfl) (fun _ _ _ _ hu =>
    (yields_write (hu 0 Nat.two_pos)).andThen
      (yields_write ((replyAt_played 0).trans (hu 1 Nat.one_lt_two)))) ls rfl h

/-- Read-modify-writes of a domain's targets (R173). -/
theorem yields_deassertBits {d : Domain} {L : LaneId}
    (h : Answered s (2 * (targets c d L).length) f) :
    Yields (deassertBits c d L) s (rmwEvents false (targets c d L) f) () := by
  rw [rmwEvents_eq, ← forEach_rmw_false]
  exact yields_forEach (k := 2) (c := cfgOf s) (fun _ _ => rfl) (fun _ _ _ _ => yields_rmw) _ rfl h

/-- One answered piece after another, the second with the answers that the first leaves. -/
theorem yields_seq {n m : Nat} {p : Piece α} {g : α → Piece β} {es' : List Event} {x : α} {y : β}
    (hn : transactions es = n) (hp : Answered s n f → Yields p s es x)
    (hg : Answered (played es s) m (shift n f) → Yields (g x) (played es s) es' y)
    (h : Answered s (n + m) f) : Yields (andThen p g) s (es ++ es') y :=
  (hp fun j hj => h j (by omega)).andThen (hg (hn ▸ answered_played h (by rw [hn])))

theorem shift_shift (n m : Nat) : shift n (shift m f) = shift (m + n) f := by
  funext j
  simp only [shift, Nat.add_assoc]

/-- R201: steps 1 to 5. -/
theorem yields_arm {L : LaneId} (h : Answered s (armCount c L) f) :
    Yields (arm c L) s (armEvents c s.vco L f) () := by
  have hcount : armCount c L =
      width L + (width L + (1 + (2 * (targets c .rxRst L).length + width L * 2))) := by
    unfold armCount
    omega
  have hlanes {e : Lane → Event} (he : ∀ i, isTransaction (e i) = true) :
      transactions ((lanes L).map e) = width L :=
    (AllTransactions.map he _).transactions_eq.trans (List.length_map _)
  have hshift : shift (2 * width L + 1) f = shift 1 (shift (width L) (shift (width L) f)) := by
    rw [shift_shift, shift_shift, Nat.two_mul, Nat.add_assoc]
  rw [hcount] at h
  simp only [armEvents, hshift, List.append_assoc]
  refine yields_seq (hlanes fun _ => rfl) (yields_lanes (w := vcoGet) _) (fun h => ?_) h
  refine yields_seq (hlanes fun _ => rfl) (yields_lanes (w := fun _ _ => 0x0418#16) _)
    (fun h => ?_) h
  refine yields_seq rfl (fun h => yields_write (h 0 Nat.one_pos)) (fun h => ?_) h
  exact yields_seq (transactions_rmwEvents _) yields_deassertBits (yields_triggers _) h

/-- The first `n` words all have bit 2 set (R202). -/
def allDone (n : Nat) (f : Nat → Word) : Bool := decide (∀ x, x < n → (f x).getLsbD 2 = true)

theorem allDone_succ (n : Nat) : allDone (n + 1) f = (test (f 0) 2 && allDone n (shift 1 f)) := by
  simp only [allDone, Nat.forall_lt_succ_left, test, shift, Nat.add_comm 1, Bool.decide_and,
    Bool.decide_eq_true]

/-- The reads of one attempt (R202). -/
theorem yields_attempt (ls : List Lane) {done : Bool} (h : Answered s ls.length f) :
    Yields (attempt c done ls) s (readEvents c.baseRxMain ls f) (done && allDone ls.length f) := by
  induction ls generalizing f s done with
  | nil =>
    simp only [List.length_nil, allDone, Nat.not_lt_zero, false_imp_iff, implies_true, decide_true,
      Bool.and_true]
    exact yields_value
  | cons l ls ih =>
    rw [List.length_cons, Nat.add_comm] at h
    rw [List.length_cons, allDone_succ, ← Bool.and_assoc]
    exact yields_seq (es := [_]) rfl (fun h => yields_read (h 0 Nat.one_pos)) ih h

variable {L : LaneId} {k : Nat}

theorem attemptDone_zero : attemptDone L f 0 ↔ allDone (width L) f = true := by
  simp only [attemptDone, allDone, Nat.zero_mul, Nat.zero_add, decide_eq_true_eq]

theorem attemptDone_shift : attemptDone L (shift (width L) f) k ↔ attemptDone L f (k + 1) := by
  simp only [attemptDone, shift, Nat.succ_mul, Nat.add_comm, Nat.add_left_comm]

/-- The state with `st.azCount` at `n` (R202). -/
def counted (n : Nat) (s : State) : State := { s with azCount := n }

/-- How a poll whose last attempt is number `k`, from 0, ends: it is done, or it is the 64th and is
not. -/
inductive PollEnds (L : LaneId) (f : Nat → Word) (count k : Nat) :
    Except RecoveryOutcome Unit → Prop where
  | done (h : attemptDone L f k) : PollEnds L f count k (.ok ())
  | timeout (h : ¬ attemptDone L f k) (hmax : count + (k + 1) = 64) :
    PollEnds L f count k (.error .autoZeroTimeout)

theorem PollEnds.shift {count : Nat} {r : Except RecoveryOutcome Unit}
    (h : PollEnds L f count (k + 1) r) :
    PollEnds L (Reference.shift (width L) f) (count + 1) k r := by
  cases h with
  | done h => exact .done (attemptDone_shift.mpr h)
  | timeout h hmax => exact .timeout (mt attemptDone_shift.mp h) (by omega)

/-- One attempt of the poll, and what follows it. -/
theorem poll_succ {fuel : Nat} (h : Answered s (width L) f) :
    poll c L (fuel + 1) s =
      orAgain (andThen (wait .tAzPoll) fun _ => poll c L fuel) (allDone (width L) f)
        (played (readEvents c.baseRxMain (lanes L) f) (counted (s.azCount + 1) s)) := by
  have hattempt : attempt c true (lanes L) (counted (s.azCount + 1) s) = some (.ok _, played _ _) :=
    yields_attempt (done := true) (lanes L) h
  rw [poll_eq]
  show andThen (attempt c true (lanes L)) _ (counted (s.azCount + 1) s) = _
  simp only [Reference.andThen, hattempt]
  rfl

/-- An attempt that is not done and not the 64th is followed by its Wait and the next one. -/
theorem poll_again {fuel : Nat} (h : Answered s (width L) f) (hdone : ¬ attemptDone L f 0)
    (hmax : s.azCount + 1 ≠ 64) :
    poll (cfgOf s) L (fuel + 1) s =
      poll (cfgOf s) L fuel (played
        (readEvents (cfgOf s).baseRxMain (lanes L) f ++ waitEvents (cfgOf s) .tAzPoll)
        (counted (s.azCount + 1) s)) := by
  rw [poll_succ h, Bool.eq_false_iff.mpr (mt attemptDone_zero.mpr hdone), played_append]
  refine (if_neg hmax).trans ?_
  have hwait (u : State) :
      wait .tAzPoll u = some (.ok (), played (waitEvents (cfgOf u) .tAzPoll) u) :=
    yields_wait .tAzPoll
  simp only [Reference.andThen, hwait]
  rfl

/-- The poll of an answered auto-zero stage whose last attempt is number `k`, from 0 (R202). -/
theorem poll_eq_some {fuel : Nat} {r : Except RecoveryOutcome Unit}
    (hend : PollEnds L f s.azCount k r) (hfirst : ∀ j, j < k → ¬ attemptDone L f j)
    (hmax : s.azCount + (k + 1) ≤ 64) (hfuel : k < fuel) (h : Answered s ((k + 1) * width L) f) :
    poll (cfgOf s) L fuel s =
      some (r, counted (s.azCount + (k + 1)) (played (pollEvents (cfgOf s) L (k + 1) f) s)) := by
  induction k generalizing s f fuel with
  | zero =>
    obtain ⟨fuel, rfl⟩ := Nat.exists_eq_add_one.mpr hfuel
    rw [poll_succ fun j hj => h j (by omega)]
    cases hend with
    | done hdone =>
      rw [attemptDone_zero.mp hdone]
      rfl
    | timeout hdone hmax =>
      rw [Bool.eq_false_iff.mpr (mt attemptDone_zero.mpr hdone)]
      exact if_pos hmax
  | succ k ih =>
    obtain ⟨fuel, rfl⟩ := Nat.exists_eq_add_one.mpr (Nat.zero_lt_of_lt hfuel)
    rw [Nat.succ_mul (k + 1), Nat.add_comm] at h
    rw [poll_again (fun j hj => h j (by omega)) (hfirst 0 k.succ_pos) (by omega)]
    have hcount : transactions (readEvents (cfgOf s).baseRxMain (lanes L) f ++
        waitEvents (cfgOf s) .tAzPoll) = width L := by
      rw [transactions_append, transactions_reads, transactions_waitEvents, Nat.add_zero]
    have hlater := answered_played (s := counted (s.azCount + 1) s) (m := (k + 1) * width L) h
      (by rw [hcount])
    rw [hcount] at hlater
    refine (ih hend.shift (fun j hj => mt attemptDone_shift.mp (hfirst (j + 1) (by omega)))
      (by simp only [played, counted]; omega) (by omega) hlater).trans ?_
    rw [← played_append, pollEvents,
      show s.azCount + (k + 1 + 1) = s.azCount + 1 + (k + 1) by omega]
    rfl

/-- R203: the snapshot of one register. -/
def snapshotOne (a : Word) : Piece Unit := andThen (read a) fun v => write a (v >>> 8)

theorem forEach_append (xs ys : List α) (g : α → Piece Unit) :
    forEach (xs ++ ys) g = andThen (forEach xs g) fun _ => forEach ys g := by
  induction xs with
  | nil => rfl
  | cons x xs ih => simp only [List.cons_append, forEach, ih, andThen_andThen]

theorem forEach_flatMap (xs : List α) (e : α → List β) (g : β → Piece Unit) :
    forEach (xs.flatMap e) g = forEach xs fun x => forEach (e x) g := by
  induction xs with
  | nil => rfl
  | cons x xs ih => rw [List.flatMap_cons, forEach_append, ih, forEach]

theorem forEach_map (xs : List α) (e : α → β) (g : β → Piece Unit) :
    forEach (xs.map e) g = forEach xs fun x => g (e x) := by
  induction xs with
  | nil => rfl
  | cons x xs ih => rw [List.map_cons, forEach, ih, forEach]

/-- Step 7 is one loop over its registers (R203). -/
theorem snapshot_eq (c : Cfg) (L : LaneId) : snapshot c L =
    andThen (forEach (snapshotAddrs c L) snapshotOne) fun _ => write c.aSaOvrEn 0x0001#16 := by
  simp only [snapshotAddrs, forEach_flatMap, forEach_map, snapshot, saOfs]
  rfl

/-- R203: the events of the snapshot of one register. -/
def snapshotEvent (a : Word) (f : Nat → Word) : List Event := [.rd a (f 0), .wr a (f 0 >>> 8)]

theorem yields_snapshotOne {a : Word} (h : Answered s 2 f) :
    Yields (snapshotOne a) s (snapshotEvent a f) () :=
  (yields_read (h 0 Nat.two_pos)).andThen
    (yields_write ((replyAt_played 0).trans (h 1 Nat.one_lt_two)))

theorem snapshotEvents_eq (as : List Word) : snapshotEvents as f =
    eachEvents 2 snapshotEvent as f := by
  induction as generalizing f with
  | nil => rfl
  | cons a as ih => rw [snapshotEvents, ih]; rfl

/-- R203: step 7. -/
theorem yields_snapshot (h : Answered s (2 * (snapshotAddrs c L).length + 1) f) :
    Yields (snapshot c L) s (finishEvents c L f) () := by
  rw [snapshot_eq]
  refine yields_seq (x := ())
    ((snapshotEvents_transactions _).transactions_eq.trans (snapshotEvents_length _)) (fun h => ?_)
    (fun h => yields_write (h 0 Nat.one_pos)) h
  rw [snapshotEvents_eq]
  exact yields_forEach (k := 2) (c := cfgOf s) (fun _ _ => rfl) (fun _ _ _ _ => yields_snapshotOne)
    _ rfl h

/-- The stage up to the end of its poll (R201, R202). -/
def tried (fuel : Nat) (c : Cfg) (L : LaneId) : Piece Unit :=
  andThen (arm c L) fun _ => andThen (assign (counted 0)) fun _ => poll c L fuel

theorem autoZero_eq_tried (fuel : Nat) (c : Cfg) (L : LaneId) :
    autoZero fuel c L = andThen (tried fuel c L) fun _ => snapshot c L := by
  simp only [tried, andThen_andThen]
  rfl

/-- The stage up to the end of its poll, answered. -/
theorem tried_eq_some {fuel : Nat} {r : Except RecoveryOutcome Unit}
    (hend : PollEnds L (shift (armCount (cfgOf s) L) f) 0 k r)
    (hfirst : ∀ j, j < k → ¬ attemptDone L (shift (armCount (cfgOf s) L) f) j)
    (hmax : k < 64) (hfuel : k < fuel)
    (h : Answered s (armCount (cfgOf s) L + (k + 1) * width L) f) :
    tried fuel (cfgOf s) L s =
      some (r, counted (k + 1) (played (triedEvents (cfgOf s) s.vco L (k + 1) f) s)) := by
  have harm : arm (cfgOf s) L s = some (.ok (), played (armEvents (cfgOf s) s.vco L f) s) :=
    yields_arm fun j hj => h j (by omega)
  have hlater := answered_played (es := armEvents (cfgOf s) s.vco L f) (m := (k + 1) * width L) h
    (by rw [transactions_armEvents])
  rw [transactions_armEvents] at hlater
  have hpoll := poll_eq_some (s := counted 0 (played (armEvents (cfgOf s) s.vco L f) s)) hend hfirst
    (by simp only [counted]; omega) hfuel hlater
  simp only [tried, Reference.andThen, harm, assign]
  refine hpoll.trans ?_
  rw [triedEvents, played_append]
  simp only [counted, Nat.zero_add]
  rfl

/-- The stage whose attempt number `k`, from 0, is the first that is done (R201 to R203). -/
theorem autoZero_done {fuel : Nat}
    (hdone : attemptDone L (shift (armCount (cfgOf s) L) f) k)
    (hfirst : ∀ j, j < k → ¬ attemptDone L (shift (armCount (cfgOf s) L) f) j)
    (hmax : k < 64) (hfuel : k < fuel)
    (h : Answered s (transactions (azEvents (cfgOf s) s.vco L (k + 1) f)) f) :
    autoZero fuel (cfgOf s) L s =
      some (.ok (), counted (k + 1) (played (azEvents (cfgOf s) s.vco L (k + 1) f) s)) := by
  rw [azEvents_eq, transactions_append, transactions_triedEvents, transactions_finishEvents] at h
  have htried := tried_eq_some (.done hdone) hfirst hmax hfuel fun j hj => h j (by omega)
  have hlater := answered_played (es := triedEvents (cfgOf s) s.vco L (k + 1) f) h
    (by rw [transactions_triedEvents])
  rw [transactions_triedEvents] at hlater
  have hsnapshot :
      snapshot (cfgOf s) L (counted (k + 1) (played _ s)) = some (.ok (), played _ _) :=
    yields_snapshot hlater
  rw [autoZero_eq_tried]
  simp only [Reference.andThen, htried, hsnapshot]
  rw [azEvents_eq, played_append]
  rfl

/-- The stage with none of its 64 attempts done (R204). -/
theorem autoZero_timeout {fuel : Nat}
    (hfirst : ∀ j, j < 64 → ¬ attemptDone L (shift (armCount (cfgOf s) L) f) j)
    (hfuel : 63 < fuel)
    (h : Answered s (transactions (azTimeoutEvents (cfgOf s) s.vco L f)) f) :
    autoZero fuel (cfgOf s) L s = some (.error .autoZeroTimeout,
      counted 64 (played (azTimeoutEvents (cfgOf s) s.vco L f) s)) := by
  rw [azTimeoutEvents_eq, transactions_triedEvents] at h
  have htried := tried_eq_some (k := 63) (.timeout (hfirst 63 (by omega)) rfl)
    (fun j hj => hfirst j (by omega)) (by omega) hfuel h
  rw [autoZero_eq_tried]
  simp only [Reference.andThen, htried]
  rfl

end

/-! ## The steps of a command by the result of its pseudocode -/

section

variable {i : Instr} {a d : Word} {s t u : State} {o : RecoveryOutcome}

/-- An accepted command whose last step `hend` comes after some completed primitives: each of these
is one step and one event. -/
theorem execTimes_of_walks_end {y : Invocation × State} (hs : Ready i a d s)
    (hw : Walks (codeOf (cfgOf s) a d i)
      (startOf i a d, record (.began .host (kindOf i) (laneOperand i)) s) y)
    (hend : HostAt (cfgOf s) i a d y → exec i (holding .host y.1 y.2) = .next t) :
    ∃ n, y.2.trace.length = s.trace.length + 1 + n ∧ execTimes (n + 1) i s = .next t := by
  have hstart : HostAt (cfgOf s) i a d
      (startOf i a d, record (.began .host (kindOf i) (laneOperand i)) s) := ⟨rfl, rfl⟩
  obtain ⟨n, hn, hsteps⟩ := execTimes_of_walks_events hstart hw
  refine ⟨n, hn, ?_⟩
  rw [execTimes_ready_eq hs, execTimes_add hsteps, execTimes_succ (hend (hstart.walks hw))]
  rfl

/-- A command whose pseudocode gives up with `n` events, with an outcome that no transaction raises,
is finished in `n` steps and the final one. -/
theorem execTimes_of_body_error {fuel n : Nat} (hs : Ready i a d s) (ho : o ≠ .transportError)
    (hbody : body fuel (cfgOf s) a d i (record (.began .host (kindOf i) (laneOperand i)) s) =
      some (.error o, u)) (hn : u.trace.length = s.trace.length + 1 + n) :
    execTimes (n + 1) i s = .next (finish i o (lastUpdates i o u)) := by
  obtain ⟨y, hw, hfails⟩ := follows_codeOf (c := cfgOf s) fuel a d i _ 0 (.self _)
    (startOf i a d) (record (.began .host (kindOf i) (laneOperand i)) s) _ u rfl trivial rfl hbody
  obtain ⟨k, hk, hsteps⟩ := execTimes_of_walks_end hs hw fun hy => exec_of_fails hy hfails
  cases hfails with
  | transport => exact absurd rfl ho
  | returned hpos =>
    obtain rfl : k = n := Nat.add_left_cancel (hk.symm.trans hn)
    exact hsteps

end

/-! ## RUN_AUTOZERO (R200, R205) -/

section

variable {s : State} {es : List Event} {L : LaneId} {k : Nat}

theorem counted_played_length (i : Instr) :
    (counted k (played es (record (.began .host (kindOf i) (laneOperand i)) s))).trace.length =
      s.trace.length + 1 + es.length := by
  simp only [counted, played_trace, record_trace, List.length_append, List.length_reverse,
    List.length_cons]
  omega

end

/-- Settles O37: the stage's pseudocode, answered, returns at its first done attempt or gives up at
the 64th, and each of its events is one step. -/
theorem autozeroResult : Obligations.AutozeroResult := by
  intro L a d f s c g hs
  refine ⟨fun k hk hmax hdone hfirst hf => ?_, fun hnone hf => ?_⟩
  · obtain ⟨k, rfl⟩ := Nat.exists_eq_add_one.mpr hk
    exact execTimes_of_body (fuel := 64) hs
      (autoZero_done (s := record (.began .host .runAutozero (some L)) s) hdone
        (fun j hj => hfirst j (by omega)) (by omega) (by omega) hf)
      (counted_played_length (.runAutozero L))
  · exact execTimes_of_body_error (fuel := 64) hs (by decide)
      (autoZero_timeout (s := record (.began .host .runAutozero (some L)) s) hnone (by omega) hf)
      (counted_played_length (.runAutozero L))

/-- Settles O38: the events of the two results are counted part by part, steps 1 to 5, the attempts
and step 7. -/
theorem autozeroCounts : Obligations.AutozeroCounts := by
  intro L a d f s c n r g one run hs
  have harm : armCount c L = n + n + 1 + r + 2 * n := by
    simp only [armCount, width, n, r]
    omega
  have hnine : (snapshotAddrs c L).length = 9 * n := by
    rw [snapshotAddrs_length, (admitted_of_wellFormed s.conf.ok).nine]
    rfl
  obtain ⟨hdone, htimeout⟩ := autozeroResult L a d f s hs
  have hrun {m k : Nat} {o : RecoveryOutcome} {es : List Event} {total pauses : Nat}
      (h : execTimes m (.runAutozero L) s =
        .next { completed (.runAutozero L) o es s with azCount := k })
      (hes : ∀ e ∈ es, isTransaction e = true ∨ e = .wait .tAzPoll)
      (htotal : transactions es = total) (hpauses : waits es = pauses) : run o total pauses := by
    subst htotal hpauses
    exact ⟨m, _, es.reverse, h, rfl, rfl, fun e he => hes e (List.mem_reverse.mp he),
      transactions_reverse, waits_reverse, rfl⟩
  refine ⟨fun k hk hmax hlast hfirst hf => ⟨?_, fun hone => ?_⟩,
    fun hnone hf => ⟨?_, fun hone => ?_⟩⟩
  · have htotal : transactions (azEvents c s.vco L k f) =
        (n + n + 1 + r + 2 * n) + k * n + (18 * n + 1) := by
      rw [azEvents_eq, transactions_append, transactions_triedEvents, transactions_finishEvents,
        harm, hnine, ← Nat.mul_assoc]
      rfl
    have hpauses : waits (azEvents c s.vco L k f) = (k - 1) * one := by
      rw [azEvents_eq, waits_append, waits_triedEvents, finishEvents_transactions.waits_eq]
      rfl
    refine hrun (hdone k hk hmax hlast hfirst (htotal ▸ hf)) (fun e he => ?_) htotal hpauses
    rw [azEvents_eq] at he
    exact (List.mem_append.mp he).elim triedEvents_transactions_or_wait fun h =>
      .inl (finishEvents_transactions e h)
  · cases L <;> simp only [n, r, hone, lanes, List.length_cons, List.length_nil] <;> omega
  · have htotal : transactions (azTimeoutEvents c s.vco L f) =
        (n + n + 1 + r + 2 * n) + 64 * n := by
      rw [azTimeoutEvents_eq, transactions_triedEvents, harm]
      rfl
    exact hrun (htimeout hnone (htotal ▸ hf)) (fun e => triedEvents_transactions_or_wait) htotal
      waits_triedEvents
  · cases L <;> simp only [n, r, hone, lanes, List.length_cons, List.length_nil]

end Sys2Proof.Machine
end

section
/-! The statement that every command ends (spec/42_autozero R202, spec/44_orchestrator R264,
spec/60_exceptions R340): a bound on the events of each piece of pseudocode, whatever the PHY
answers, and so on the steps of a command. -/

namespace Sys2Proof.Machine

open Reference

/-! ## Pieces that end -/

/-- From `s` the piece ends within its fuel, with at most `n` more events. -/
def EndsWithin {α : Type} (n : Nat) (p : Piece α) (s : State) : Prop :=
  ∃ r t, p s = some (r, t) ∧ t.trace.length ≤ s.trace.length + n

/-- From every state the piece ends within its fuel, with at most `n` more events. -/
def Ends {α : Type} (n : Nat) (p : Piece α) : Prop := ∀ s, EndsWithin n p s

section

variable {α β : Type} {n m : Nat} {p : Piece α} {f : α → Piece β} {s : State}

theorem EndsWithin.andThen (hp : EndsWithin n p s)
    (hf : ∀ x t, p s = some (.ok x, t) → EndsWithin m (f x) t) :
    EndsWithin (n + m) (andThen p f) s := by
  obtain ⟨r, t, hpt, hlen⟩ := hp
  cases r with
  | error o => exact ⟨.error o, t, by simp only [Reference.andThen, hpt], by omega⟩
  | ok x =>
    obtain ⟨r, u, hfu, hlen'⟩ := hf x t hpt
    exact ⟨r, u, by simp only [Reference.andThen, hpt, hfu], by omega⟩

theorem EndsWithin.mono (h : EndsWithin n p s) (hnm : n ≤ m) : EndsWithin m p s := by
  obtain ⟨r, t, hpt, hlen⟩ := h
  exact ⟨r, t, hpt, by omega⟩

theorem Ends.andThen (hp : Ends n p) (hf : ∀ x, Ends m (f x)) : Ends (n + m) (andThen p f) :=
  fun s => (hp s).andThen fun x t _ => hf x t

theorem Ends.mono (h : Ends n p) (hnm : n ≤ m) : Ends m p := fun s => (h s).mono hnm

theorem ends_value (x : α) : Ends 0 (value x) := fun s => ⟨_, s, rfl, le_rfl⟩

theorem ends_giveUp (o : RecoveryOutcome) : Ends 0 (giveUp (α := α) o) :=
  fun s => ⟨_, s, rfl, le_rfl⟩

theorem ends_ite {b : Prop} [Decidable b] {q : Piece α} (hp : Ends n p) (hq : Ends n q) :
    Ends n (if b then p else q) := by
  split
  · exact hp
  · exact hq

/-- An assignment that has no event. -/
theorem ends_assign {g : State → State} (hg : ∀ s, (g s).trace = s.trace) : Ends 0 (assign g) :=
  fun s => ⟨_, g s, rfl, (congrArg List.length (hg s)).le⟩

/-- An assignment that has no event, and then another piece. -/
theorem ends_assign_andThen {g : State → State} {q : Piece β} (hg : ∀ s, (g s).trace = s.trace)
    (hq : Ends m q) : Ends m (Reference.andThen (assign g) fun _ => q) :=
  ((ends_assign hg).andThen fun _ => hq).mono (Nat.zero_add m).le

theorem ends_wait (d : Delay) : Ends 1 (wait d) := by
  intro s
  refine ⟨_, _, rfl, ?_⟩
  split
  · exact Nat.le_succ _
  · exact le_rfl

theorem ends_write (a v : Word) : Ends 1 (write a v) := by
  intro s
  unfold EndsWithin Reference.write
  cases hr : nextReply s with
  | ok w => rw [memWrite_ok hr]; exact ⟨_, _, rfl, le_rfl⟩
  | fail => rw [memWrite_fail hr]; exact ⟨_, _, rfl, le_rfl⟩

/-- A read is one event and changes neither of the two counters. -/
theorem endsWithin_read {a : Word} {f : Word → Piece β}
    (hf : ∀ v t, t.azCount = s.azCount → t.regcalCount = s.regcalCount → EndsWithin m (f v) t) :
    EndsWithin (1 + m) (Reference.andThen (read a) f) s := by
  cases hr : nextReply s with
  | ok v =>
    have hread : read a s = some (.ok v, record (.rd a v) (drawReply s)) := by
      simp only [Reference.read, memRead_ok hr]
    exact EndsWithin.andThen ⟨_, _, hread, le_rfl⟩ fun x t h => by
      cases hread.symm.trans h
      exact hf _ _ rfl rfl
  | fail =>
    have hread : read a s =
        some (.error .transportError, setTransportFault (record (.rdFail a) (drawReply s))) := by
      simp only [Reference.read, memRead_fail hr]
    exact EndsWithin.andThen ⟨_, _, hread, le_rfl⟩ fun x t h => nomatch hread.symm.trans h

theorem ends_read {a : Word} {f : Word → Piece β} (hf : ∀ v, Ends m (f v)) :
    Ends (1 + m) (Reference.andThen (read a) f) :=
  fun _ => endsWithin_read fun v t _ _ => hf v t

theorem ends_forEach {g : α → Piece Unit} (h : ∀ x, Ends n (g x)) :
    ∀ xs : List α, Ends (n * xs.length) (forEach xs g)
  | [] => ends_value ()
  | x :: xs => ((h x).andThen fun _ => ends_forEach h xs).mono (by
      rw [List.length_cons, Nat.mul_succ, Nat.add_comm])

end

/-! ## The stages -/

section

variable {c : Cfg} {d : Domain} {L : LaneId} {β : Type} {m : Nat}

theorem targets_length_le : (targets c d L).length ≤ 4 := by
  unfold targets
  split
  · simp
  · split <;> simp

theorem lanes_length_le : (lanes L).length ≤ 4 := by
  cases L <;> simp [lanes]

/-- A loop over the lanes of `L`. -/
theorem ends_lanes {n : Nat} {g : Lane → Piece Unit} (h : ∀ i, Ends n (g i)) :
    Ends (n * 4) (forEach (lanes L) g) :=
  (ends_forEach h _).mono (Nat.mul_le_mul_left n lanes_length_le)

/-- A loop over the targets of a domain. -/
theorem ends_targets {n : Nat} {g : Word × Word → Piece Unit} (h : ∀ t, Ends n (g t)) :
    Ends (n * 4) (forEach (targets c d L) g) :=
  (ends_forEach h _).mono (Nat.mul_le_mul_left n targets_length_le)

theorem ends_assertBits : Ends 8 (assertBits c d L) :=
  ends_targets fun _ => ends_read fun _ => ends_write _ _

theorem ends_deassertBits : Ends 8 (deassertBits c d L) :=
  ends_targets fun _ => ends_read fun _ => ends_write _ _

theorem ends_toggle : Ends 16 (toggle c d L) :=
  ends_targets fun _ => ends_read fun _ => (ends_write _ _).andThen fun _ =>
    (ends_wait _).andThen fun _ => ends_write _ _

theorem ends_txRestart {l : Lane} : Ends 33 (txRestart c l) :=
  (ends_assertBits.andThen fun _ => ends_assertBits.andThen fun _ => ends_deassertBits.andThen
    fun _ => (ends_wait _).andThen fun _ => ends_deassertBits).mono (by decide)

theorem ends_restartPll : Ends 33 (restartPll c L) := by
  cases L with
  | lane l => exact ends_txRestart
  | allLanes => exact (ends_assertBits.andThen fun _ => ends_deassertBits).mono (by decide)

theorem ends_acquire : Ends 18 (acquire c L) := by
  have hlanes (a : Lane → Word) (w : Word) : Ends 4 (forEach (lanes L) fun i => write (a i) w) :=
    ends_lanes fun _ => ends_write _ _
  exact ((hlanes _ _).andThen fun _ => (hlanes _ _).andThen fun _ => (ends_wait .tFaShort).andThen
    fun _ => (hlanes _ _).andThen fun _ => (ends_wait .tFaLong).andThen fun _ => hlanes _ _).mono
    (by decide)

theorem ends_acq : Ends 51 (acq c L) := ends_acquire.andThen fun _ => ends_restartPll

theorem ends_lock : Ends 19 (Reference.lock c L) := by
  have htest : Ends 1 (testLock c L) :=
    ends_read (m := 0) fun _ => ends_ite (ends_value ()) (ends_giveUp _)
  have htrim : Ends 4 (updateTrim c L) := by
    refine ends_lanes (n := 1) fun i => ends_read (m := 0) fun v => ?_
    exact ends_assign fun _ => rfl
  have henable : Ends 10 (enableTx c L) := by
    refine (ends_deassertBits.andThen (m := 2) fun _ => ?_)
    cases L with
    | lane _ => exact (ends_value ()).mono (by decide)
    | allLanes => exact ends_read fun _ => ends_write _ _
  have hflush : Ends 4 (flushFifo c) :=
    (ends_write _ _).andThen (m := 3) fun _ => (ends_write _ _).andThen (m := 2) fun _ =>
      ends_read (m := 1) fun _ => ends_read (m := 0) fun _ => ends_value ()
  exact (htest.andThen fun _ => htrim.andThen fun _ => henable.andThen fun _ => hflush).mono
    (by decide)

theorem ends_freqPll : Ends 70 (freqPll c L) := ends_acq.andThen fun _ => ends_lock

/-! ## The polls (R202, R264) -/

/-- The reads of an attempt, which leave its number alone. -/
theorem endsWithin_attempt {K : Bool → Piece β} {s : State} (ls : List Lane) {done : Bool}
    (hK : ∀ done t, t.azCount = s.azCount → EndsWithin m (K done) t) :
    EndsWithin (ls.length + m) (andThen (attempt c done ls) K) s := by
  induction ls generalizing s done with
  | nil => exact (hK done s rfl).mono (by simp)
  | cons l ls ih =>
    rw [attempt, andThen_andThen]
    exact (endsWithin_read fun v t ht _ => ih fun done u hu => hK done u (hu.trans ht)).mono
      (by simp only [List.length_cons]; omega)

/-- A Wait is at most one event and changes neither of the two counters. -/
theorem endsWithin_wait {d : Delay} {p : Piece β} {s : State}
    (hp : ∀ t, t.azCount = s.azCount → t.regcalCount = s.regcalCount → EndsWithin m p t) :
    EndsWithin (1 + m) (andThen (wait d) fun _ => p) s := by
  refine (ends_wait d s).andThen fun x t h => ?_
  cases h
  split
  · exact hp _ rfl rfl
  · exact hp _ rfl rfl

/-- The auto-zero poll, which is not at its 64th attempt yet and has `n` left, ends within them
(R202). -/
theorem endsWithin_poll {n fuel : Nat} {s : State} (hmax : s.azCount ≠ 64)
    (hn : s.azCount + n = 64) (hfuel : n ≤ fuel) : EndsWithin (n * 5) (poll c L fuel) s := by
  induction n generalizing s fuel with
  | zero => exact absurd hn hmax
  | succ n ih =>
    obtain ⟨fuel, rfl⟩ := Nat.exists_eq_add_one.mpr (Nat.zero_lt_of_lt hfuel)
    have hattempt : EndsWithin ((lanes L).length + (1 + n * 5))
        (andThen (attempt c true (lanes L))
          (orAgain (andThen (wait .tAzPoll) fun _ => poll c L fuel))) (nextAttempt s) := by
      refine endsWithin_attempt _ fun done t ht => ?_
      replace ht : t.azCount = s.azCount + 1 := ht
      unfold orAgain
      split
      · exact (ends_value () t).mono (Nat.zero_le _)
      · by_cases hlast : t.azCount = 64
        · exact ⟨_, t, if_pos hlast, Nat.le_add_right _ _⟩
        · obtain ⟨r, u, hu, hlen⟩ := endsWithin_wait (d := .tAzPoll) (s := t) fun u hu _ =>
            ih (s := u) (fuel := fuel) (by omega) (by omega) (by omega)
          exact ⟨r, u, (if_neg hlast).trans hu, hlen⟩
    rw [poll_eq]
    exact hattempt.mono (by have := lanes_length_le (L := L); omega)

/-- The regulator-calibration poll, which is not at its limit yet and has `n` reads left, ends
within them (R264). -/
theorem endsWithin_regcalPoll {n limit fuel : Nat} {s : State}
    (hlimit : c.regcalPollLimit = some limit) (hmax : s.regcalCount ≠ limit) (hn : s.regcalCount + n = limit) (hfuel : n ≤ fuel) :
    EndsWithin (n * 2) (regcalPoll c fuel) s := by
  induction n generalizing s fuel with
  | zero => exact absurd hn hmax
  | succ n ih =>
    obtain ⟨fuel, rfl⟩ := Nat.exists_eq_add_one.mpr (Nat.zero_lt_of_lt hfuel)
    refine (endsWithin_read (m := 1 + n * 2) fun v t _ ht => ?_).mono (by omega)
    refine ((ends_assign (by exact fun _ => rfl) t).andThen (m := 1 + n * 2) fun x u hu => ?_).mono
      (by omega)
    cases hu
    split
    · exact (ends_value () _).mono (Nat.zero_le _)
    · by_cases hlast : c.regcalPollLimit = some (t.regcalCount + 1)
      · exact ⟨_, _, if_pos hlast, Nat.le_add_right _ _⟩
      · have hcount : t.regcalCount + 1 ≠ limit := fun h => hlast (h ▸ hlimit)
        obtain ⟨r, u, hu, hlen⟩ := endsWithin_wait (d := .tRegcalPoll)
          (s := { t with regcalCount := t.regcalCount + 1 }) fun u _ hu =>
            ih (s := u) (fuel := fuel) (by rw [hu]; exact hcount) (by simp only [hu]; omega)
              (by omega)
        exact ⟨r, u, (if_neg hlast).trans hu, hlen⟩

/-- The auto-zero stage, with fuel for its 64 attempts (R201 to R204). -/
theorem ends_autoZero {fuel : Nat} (hnine : c.baseSaOfs.length = 9) (hfuel : 64 ≤ fuel) :
    Ends 418 (autoZero fuel c L) := by
  have hwrites (a : Lane → Word) (w : State → Lane → Word) :
      Ends 4 (forEach (lanes L) fun i => fun s => write (a i) (w s i) s) := by
    refine ends_lanes (n := 1) fun i s => ?_
    exact ends_write (a i) (w s i) s
  have harm : Ends 25 (arm c L) :=
    ((hwrites _ fun s => vcoGet s.vco).andThen fun _ =>
      (hwrites _ fun _ _ => 0x0418#16).andThen fun _ => (ends_write _ _).andThen fun _ =>
        ends_deassertBits.andThen fun _ => ends_lanes (n := 2) fun _ =>
          (ends_write _ _).andThen fun _ => ends_write _ _).mono (by decide)
  have hpoll : Ends 320 (andThen (assign (counted 0)) fun _ => poll c L fuel) := fun s =>
    endsWithin_poll (n := 64) (s := counted 0 s) (by simp [counted]) rfl hfuel
  have hsnapshot : Ends 73 (snapshot c L) := by
    refine (ends_lanes (n := 18) fun i => ?_).andThen fun _ => ends_write _ _
    refine (ends_forEach (n := 2) (fun f => ?_) (saOfs c)).mono (by simp [saOfs, hnine])
    exact ends_read fun v => ends_write (addrOf f i) (v >>> 8)
  rw [autoZero_eq_tried]
  exact ((harm.andThen fun _ => hpoll).andThen fun _ => hsnapshot).mono (by decide)

/-- R263, R264: the poll has fuel for its limit, or there is no poll. -/
theorem ends_resetAsserted {fuel : Nat} (hc : Admitted c)
    (hlimit : L = .allLanes → c.regcalPollLimit.isSome = true)
    (hfuel : c.regcalPollLimit.getD 0 ≤ fuel) :
    Ends (9 + 2 * c.regcalPollLimit.getD 0) (resetAsserted fuel c L) := by
  cases L with
  | lane l => exact (ends_assertBits.andThen fun _ => ends_wait _).mono (Nat.le_add_right _ _)
  | allLanes =>
    obtain ⟨n, hn⟩ := Option.isSome_iff_exists.mp (hlimit rfl)
    have hpos : 1 ≤ n := hc.limit n hn
    rw [hn, Option.getD_some] at hfuel ⊢
    have hpoll : Ends (n * 2) (Reference.andThen (assign fun s => { s with regcalCount := 0 })
        fun _ => regcalPoll c fuel) := fun s =>
      endsWithin_regcalPoll (s := { s with regcalCount := 0 }) hn (by show 0 ≠ n; omega)
        (Nat.zero_add n) hfuel
    exact ((ends_write _ _).andThen fun _ => hpoll).mono (by omega)

theorem ends_recover {fuel : Nat} {ag : Agent} (hc : Admitted c)
    (hlimit : L = .allLanes → c.regcalPollLimit.isSome = true)
    (hfuel : 64 + c.regcalPollLimit.getD 0 ≤ fuel) :
    Ends (497 + 2 * c.regcalPollLimit.getD 0) (recover fuel c L ag) := by
  have hstage (f : Fsm) : Ends 0 (stage f) := ends_assign fun _ => rfl
  have hstages :=
    (ends_resetAsserted (fuel := fuel) hc hlimit (by omega)).andThen fun _ =>
    (hstage .calibratingAZ).andThen fun _ =>
    (ends_autoZero (L := L) (fuel := fuel) hc.nine (by omega)).andThen fun _ =>
    (hstage .acquiringFrequency).andThen fun _ =>
    (ends_acq (c := c) (L := L)).andThen fun _ =>
    (hstage .lockTesting).andThen fun _ => ends_lock (c := c) (L := L)
  exact ends_assign_andThen (fun _ => rfl) (hstages.mono (by omega))

theorem ends_probe : Ends 2 probe :=
  ends_read (m := 1) fun _ => ends_assign_andThen (fun _ => rfl) <|
    ends_read (m := 0) fun _ => ends_assign_andThen (fun _ => rfl) <|
      ends_ite (ends_value ()) (ends_giveUp _)

/-- The pseudocode of every command ends, but that of an AllLanes RECOVER with no poll limit. -/
theorem ends_body {fuel : Nat} {i : Instr} (a d : Word) (hc : Admitted c)
    (hlimit : i = .recover .allLanes → c.regcalPollLimit.isSome = true)
    (hfuel : 64 + c.regcalPollLimit.getD 0 ≤ fuel) :
    Ends (497 + 2 * c.regcalPollLimit.getD 0) (body fuel c a d i) := by
  have hle {n : Nat} {p : Piece Unit} (h : Ends n p) (hn : n ≤ 497) :
      Ends (497 + 2 * c.regcalPollLimit.getD 0) p := h.mono (Nat.le_add_right_of_le hn)
  cases i with
  | probe => exact hle ends_probe (by decide)
  | detach => exact hle (ends_value ()) (by decide)
  | regRead =>
    refine hle (ends_read (m := 0) fun v => ?_) (by decide)
    exact ends_assign fun _ => rfl
  | regWrite => exact hle (ends_write a d) (by decide)
  | assertRxReset L | assertTxCoreReset L | assertTxPllReset L | assertRxPowerdown L =>
    exact hle ends_assertBits (by decide)
  | deassertRxReset L | deassertTxCoreReset L | deassertTxPllReset L | deassertRxPowerdown L =>
    exact hle ends_deassertBits (by decide)
  | disableLolMonitor L => exact hle (ends_ite ends_assertBits ends_deassertBits) (by decide)
  | toggleReset dm L => exact hle ends_toggle (by decide)
  | runAutozero L => exact hle (ends_autoZero hc.nine (by omega)) (by decide)
  | runFreqPll L => exact hle ends_freqPll (by decide)
  | txRestart l => exact hle ends_txRestart (by decide)
  | recover L => exact ends_recover hc (fun hL => hlimit (congrArg Instr.recover hL)) hfuel

end

/-! ## Commands that end -/

section

variable {code : List MicroOp} {i : Instr} {a d : Word} {x : Invocation × State} {s u : State}
  {o : RecoveryOutcome}

/-- The step with which a procedure fails keeps the trace, or adds its failed transaction. -/
theorem Fails.trace_le (h : Fails code x o u) : x.2.trace.length ≤ u.trace.length := by
  cases h with
  | returned => exact le_rfl
  | @transport n op inv s t hpos hop hfails =>
    rcases perform_shape op n inv goTo release s with
      ⟨e, p, inv', v, heq, -⟩ | ⟨e, heq, -⟩
    · have hinv := congrArg State.inv ((hfails goTo release).symm.trans heq)
      simp at hinv
    · have htrace := congrArg State.trace ((hfails goTo release).symm.trans heq)
      simp only [release_trace, record_trace, drawReply_trace, applyPre_trace] at htrace
      simp [htrace]

/-- An accepted command whose pseudocode ends within `n` events is finished in at most one step
more. -/
theorem execTimes_le_of_body {fuel n : Nat} {r : Except RecoveryOutcome Unit} (hs : Ready i a d s)
    (hbody : body fuel (cfgOf s) a d i (record (.began .host (kindOf i) (laneOperand i)) s) =
      some (r, u)) (hn : u.trace.length ≤ s.trace.length + 1 + n) :
    ∃ m, m ≤ n + 1 ∧
      execTimes m i s = .next (finish i (resultOf r) (lastUpdates i (resultOf r) u)) := by
  have hreaches := follows_codeOf (c := cfgOf s) fuel a d i _ 0 (.self _)
    (startOf i a d) (record (.began .host (kindOf i) (laneOperand i)) s) _ u rfl trivial rfl hbody
  rw [Nat.zero_add] at hreaches
  cases r with
  | ok _ =>
    obtain ⟨inv, hw, hpos, -⟩ := hreaches
    obtain ⟨k, hk, hsteps⟩ := execTimes_of_walks_end hs hw fun hy => exec_of_over hy hpos
    exact ⟨k + 1, by simp only at hk; omega, hsteps⟩
  | error o =>
    obtain ⟨y, hw, hfails⟩ := hreaches
    obtain ⟨k, hk, hsteps⟩ := execTimes_of_walks_end hs hw fun hy => exec_of_fails hy hfails
    exact ⟨k + 1, by have := hfails.trace_le; omega, hsteps⟩

end

/-- Settles O42: the pseudocode of a command ends within its polls' limits, and each of its events
is one step. -/
theorem commandsEnd : Obligations.CommandsEnd := by
  intro i a d s hs hlimit
  obtain ⟨r, u, hbody, hlen⟩ := ends_body (c := cfgOf s) a d (admitted_of_wellFormed s.conf.ok)
    hlimit le_rfl (record (.began .host (kindOf i) (laneOperand i)) s)
  obtain ⟨m, hm, hend⟩ := execTimes_le_of_body hs hbody hlen
  exact ⟨m, _, resultOf r, by omega, hend, rfl, rfl, rfl, rfl, rfl, rfl, rfl⟩

end Sys2Proof.Machine
end

section
/-! The statements of the Frequency Acquisition & PLL Lock Stage (spec/43_freq_pll): the events of a
TX restart and of a stage that is answered, with the lock bit set or clear. -/

namespace Sys2Proof.Machine

open Reference

/-! ## The TX restart, answered (R231) -/

section

variable {c : Cfg} {d : Domain} {L : LaneId} {l : Lane} {f : Nat → Word} {s : State}

/-- Read-modify-writes of a domain's targets (R172). -/
theorem yields_assertBits (h : Answered s (2 * (targets c d L).length) f) :
    Yields (assertBits c d L) s (rmwEvents true (targets c d L) f) () := by
  rw [rmwEvents_eq, ← forEach_rmw_true]
  exact yields_forEach (k := 2) (c := cfgOf s) (fun _ _ => rfl) (fun _ _ _ _ => yields_rmw) _ rfl h

theorem yields_txRestart (h : Answered s 8 f) :
    Yields (txRestart (cfgOf s) l) s (txRestartEvents (cfgOf s) l f) () := by
  have hfour : shift 4 f = shift 2 (shift 2 f) := shift_shift 2 2 |>.symm
  have hsix : shift 6 f = shift 0 (shift 2 (shift 2 (shift 2 f))) := by simp only [shift_shift]
  replace h : Answered s (2 + (2 + (2 + (0 + 2)))) f := h
  simp only [txRestartEvents, hfour, hsix, List.append_assoc]
  refine yields_seq (transactions_rmwEvents _) yields_assertBits (fun h => ?_) h
  refine yields_seq (transactions_rmwEvents _) yields_assertBits (fun h => ?_) h
  refine yields_seq (transactions_rmwEvents _) yields_deassertBits (fun h => ?_) h
  exact yields_seq transactions_waitEvents (fun _ => yields_wait .tTxRestart) yields_deassertBits h

end

/-- Settles O36: each event of the answered restart is one step. -/
theorem txRestartResult : Obligations.TxRestartResult := fun _ _ _ _ s hs hf =>
  execTimes_of_yields (fuel := 0) hs (fun _ => rfl)
    (yields_txRestart (s := record (.began .host .txRestart _) s) hf)

/-! ## The acquisition, answered (R230, R232) -/

/-- R230: the events of the literal sequence. -/
def acquireEvents (c : Cfg) (L : LaneId) : List Event :=
  (lanes L).map (fun i => .wr (laneAddr c.baseFaCtrl i) c.patFaEnable)
    ++ ((lanes L).map (fun i => .wr (laneAddr (faBase c c.regFaStart) i) c.patFaStart)
    ++ (waitEvents c .tFaShort
    ++ ((lanes L).map (fun i => .wr (laneAddr (faBase c c.regFaCont) i) c.patFaCont)
    ++ (waitEvents c .tFaLong
    ++ (lanes L).map fun i => .wr (laneAddr c.baseOscMan i) c.patOscFinal))))

/-- R232: the events of the PLL restart. -/
def restartEvents (c : Cfg) (L : LaneId) (f : Nat → Word) : List Event :=
  match L with
  | .allLanes =>
    rmwEvents true (targets c .txpllRst .allLanes) f
      ++ rmwEvents false (targets c .txpllRst .allLanes) (shift 2 f)
  | .lane i => txRestartEvents c i f

/-- The transactions of the PLL restart. -/
def restartCount : LaneId → Nat
  | .allLanes => 4
  | .lane _ => 8

section

variable {c : Cfg} {L : LaneId} {f : Nat → Word} {s : State}

theorem acqEvents_eq :
    acqEvents c L f = acquireEvents c L ++ restartEvents c L (shift (4 * width L) f) := by
  cases L with
  | lane i =>
    simp only [acqEvents, acquireEvents, List.append_assoc]
    rfl
  | allLanes =>
    have hlater : shift 18 f = shift 2 (shift 16 f) := shift_shift 2 16 |>.symm
    simp only [acqEvents, acquireEvents, hlater, List.append_assoc]
    rfl

theorem acqCount_eq : acqCount L = 4 * width L + restartCount L := by cases L <;> rfl

/-- One write for each lane is one transaction for each lane. -/
theorem transactions_lanes {a : Lane → Word} {w : Word} :
    transactions ((lanes L).map fun i => .wr (a i) w) = width L :=
  (AllTransactions.map (fun _ => rfl) _).transactions_eq.trans (List.length_map _)

theorem transactions_acquireEvents : transactions (acquireEvents c L) = 4 * width L := by
  simp only [acquireEvents, transactions_append, transactions_waitEvents,
    transactions_lanes]
  omega

theorem transactions_restartEvents : transactions (restartEvents c L f) = restartCount L := by
  cases L with
  | lane i | allLanes =>
    simp only [restartEvents, txRestartEvents, transactions_append, transactions_rmwEvents,
      transactions_waitEvents]
    rfl

theorem transactions_acqEvents : transactions (acqEvents c L f) = acqCount L := by
  rw [acqEvents_eq, transactions_append, transactions_acquireEvents, transactions_restartEvents,
    acqCount_eq]

/-- The registers that REG_FA_START and REG_FA_CONT can name (R7). -/
theorem addrOf_faRegFamily (r : FaReg) (i : Lane) :
    addrOf (faRegFamily c r) i = laneAddr (faBase c r) i := by
  cases r <;> rfl

theorem yields_acquire (h : Answered s (4 * width L) f) :
    Yields (acquire (cfgOf s) L) s (acquireEvents (cfgOf s) L) () := by
  have hcount : 4 * width L = width L + (width L + (0 + (width L + (0 + width L)))) := by omega
  have hlanes {u : State} {a : Lane → Word} {g : Nat → Word} (w : Word)
      (h : Answered u (width L) g) : Yields (forEach (lanes L) fun i => write (a i) w) u
        ((lanes L).map fun i => .wr (a i) w) () := yields_lanes (w := fun _ _ => w) _ h
  rw [hcount] at h
  simp only [acquire, acquireEvents, addrOf_faRegFamily]
  refine yields_seq transactions_lanes (hlanes _) (fun h => ?_) h
  refine yields_seq transactions_lanes (hlanes _) (fun h => ?_) h
  refine yields_seq transactions_waitEvents (fun _ => yields_wait .tFaShort) (fun h => ?_) h
  refine yields_seq transactions_lanes (hlanes _) (fun h => ?_) h
  exact yields_seq transactions_waitEvents (fun _ => yields_wait .tFaLong) (hlanes _) h

theorem yields_restartPll (h : Answered s (restartCount L) f) :
    Yields (restartPll (cfgOf s) L) s (restartEvents (cfgOf s) L f) () := by
  cases L with
  | lane i => exact yields_txRestart h
  | allLanes =>
    exact yields_seq (n := 2) (m := 2) (transactions_rmwEvents _) (fun h => yields_assertBits h)
      (fun h => yields_deassertBits h) h

/-- R237: `ACQ(L)`. -/
theorem yields_acq (h : Answered s (acqCount L) f) :
    Yields (acq (cfgOf s) L) s (acqEvents (cfgOf s) L f) () := by
  rw [acqCount_eq] at h
  rw [acqEvents_eq]
  exact yields_seq transactions_acquireEvents yields_acquire yields_restartPll h

end

/-! ## The lock stage, answered (R233 to R236) -/

/-- R235: the events of the release of the TX core and of TX output. -/
def enableEvents (c : Cfg) (L : LaneId) (f : Nat → Word) : List Event :=
  match L with
  | .allLanes => rmwEvents false (targets c .txcoreRst .allLanes) f
      ++ rmwEvent false (c.aAggLaneCtrl, bit c.bTxen) (shift 2 f)
  | .lane i => rmwEvents false (targets c .txcoreRst (.lane i)) f

/-- The transactions of that release. -/
def enableCount : LaneId → Nat
  | .allLanes => 4
  | .lane _ => 2

/-- R236: the events of the FIFO flush. -/
def flushEvents (c : Cfg) (f : Nat → Word) : List Event :=
  [.wr c.aFifo c.patFifoAssert, .wr c.aFifo c.patFifoClear, .rd c.aLol (f 2), .rd c.aLos (f 3)]

/-- The transactions of `LOCK(L)` when the lock bit read is set. -/
def lockCount (L : LaneId) : Nat := 1 + (width L + (enableCount L + 4))

/-- The state with the trim cache at `t` (R53). -/
def retrimmed (t : VcoTable) (s : State) : State := { s with vco := t }

/-- From `s` the piece returns after completed primitives with the events `es` and leaves the trim
cache at `t` (R234). -/
def TrimsTo (p : Piece Unit) (s : State) (es : List Event) (t : VcoTable) : Prop :=
  p s = some (.ok (), retrimmed t (played es s))

section

variable {p : Piece Unit} {g : Unit → Piece Unit} {s : State} {es es' : List Event}
  {t t' : VcoTable} {n m : Nat} {f : Nat → Word}

/-- A piece that trims nothing. -/
theorem Yields.trimsTo (h : Yields p s es ()) : TrimsTo p s es s.vco := h

/-- One answered piece after another, the second with the answers and the trims that the first
leaves. -/
theorem trimsTo_seq (hn : transactions es = n) (hp : Answered s n f → TrimsTo p s es t)
    (hg : Answered (retrimmed t (played es s)) m (shift n f) →
      TrimsTo (g ()) (retrimmed t (played es s)) es' t')
    (h : Answered s (n + m) f) : TrimsTo (andThen p g) s (es ++ es') t' := by
  have hfirst := hp fun j hj => h j (by omega)
  have hsecond := hg (hn ▸ answered_played h (by rw [hn]))
  unfold TrimsTo at *
  simp only [Reference.andThen, hfirst, hsecond, played_append]
  rfl

end

section

variable {c : Cfg} {L : LaneId} {f : Nat → Word} {s : State} {v : Word}

theorem lockEvents_eq : lockEvents c L f =
    [.rd (lockBit c L).1 (f 0)] ++ (readEvents c.baseOscCode (lanes L) (shift 1 f)
      ++ (enableEvents c L (shift (width L) (shift 1 f))
      ++ flushEvents c (shift (enableCount L) (shift (width L) (shift 1 f))))) := by
  cases L with
  | lane i | allLanes =>
    simp only [lockEvents, shift_shift, List.append_assoc]
    rfl

theorem transactions_enableEvents : transactions (enableEvents c L f) = enableCount L := by
  cases L with
  | lane i => exact transactions_rmwEvents _
  | allLanes =>
    rw [enableEvents, transactions_append, transactions_rmwEvents]
    rfl

theorem transactions_lockEvents : transactions (lockEvents c L f) = lockCount L := by
  rw [lockEvents_eq, transactions_append, transactions_append, transactions_append,
    transactions_enableEvents, (readEvents_transactions _).transactions_eq, readEvents_length]
  rfl

theorem testLock_eq : testLock c L = andThen (read (lockBit c L).1) fun v =>
    if test v (lockBit c L).2 then value () else giveUp .txPllNotLocked := by
  cases L <;> rfl

/-- A lock bit that is set (R233). -/
theorem yields_testLock (hr : replyAt s 0 = .ok v) (hv : v.getLsbD (lockBit c L).2 = true) :
    Yields (testLock c L) s [.rd (lockBit c L).1 v] () := by
  rw [testLock_eq]
  refine (yields_read hr).andThen (es' := []) ?_
  rw [if_pos (show test v _ = true from hv)]
  exact yields_value

/-- A lock bit that is clear (R233). -/
theorem testLock_clear (hr : replyAt s 0 = .ok v) (hv : v.getLsbD (lockBit c L).2 = false) :
    testLock c L s = some (.error .txPllNotLocked, played [.rd (lockBit c L).1 v] s) := by
  have hread : read (lockBit c L).1 s = some (.ok v, played [.rd (lockBit c L).1 v] s) :=
    yields_read hr
  rw [testLock_eq]
  simp only [Reference.andThen, hread, test, hv]
  rfl

/-- R234: the trim update of one lane. -/
def trimOne (c : Cfg) (i : Lane) : Piece Unit :=
  andThen (read (addrOf (oscCode c) i)) fun v =>
    assign fun s => retrimmed (vcoSet s.vco i (field v c.fOscCodeHi c.fOscCodeLo + 5#16)) s

theorem trimsTo_trimOne {i : Lane} (hr : replyAt s 0 = .ok v) :
    TrimsTo (trimOne c i) s [.rd (laneAddr c.baseOscCode i) v]
      (vcoSet s.vco i (field v c.fOscCodeHi c.fOscCodeLo + 5#16)) := by
  have hread : read (addrOf (oscCode c) i) s =
      some (.ok v, played [.rd (laneAddr c.baseOscCode i) v] s) := yields_read hr
  simp only [TrimsTo, trimOne, Reference.andThen, hread]
  rfl

/-- The trim updates of some lanes, in order (R234). -/
theorem trimsTo_forEach (ls : List Lane) (h : Answered s ls.length f) :
    TrimsTo (forEach ls (trimOne c)) s (readEvents c.baseOscCode ls f)
      (trimmed c ls f s.vco) := by
  induction ls generalizing f s with
  | nil => rfl
  | cons l ls ih =>
    rw [List.length_cons, Nat.add_comm] at h
    exact trimsTo_seq (es := [_]) rfl (fun h => trimsTo_trimOne (h 0 Nat.one_pos))
      (fun h => ih (s := retrimmed _ (played _ s)) h) h

theorem yields_enableTx (h : Answered s (enableCount L) f) :
    Yields (enableTx c L) s (enableEvents c L f) () := by
  cases L with
  | lane i =>
    have hrelease : Yields (deassertBits c .txcoreRst (.lane i)) s _ () := yields_deassertBits h
    rw [← List.append_nil (enableEvents c _ f)]
    exact hrelease.andThen yields_value
  | allLanes =>
    exact yields_seq (n := 2) (m := 2) (transactions_rmwEvents _) (fun h => yields_deassertBits h)
      (yields_rmw (setting := false) (t := (c.aAggLaneCtrl, bit c.bTxen))) h

theorem yields_flushFifo (h : Answered s 4 f) : Yields (flushFifo c) s (flushEvents c f) () :=
  (yields_write (h 0 (by omega))).andThen <|
    (yields_write ((replyAt_played 0).trans (h 1 (by omega)))).andThen <|
    (yields_read ((replyAt_played 0).trans ((replyAt_played 1).trans (h 2 (by omega))))).andThen <|
    (yields_read ((replyAt_played 0).trans ((replyAt_played 1).trans ((replyAt_played 2).trans
      (h 3 (by omega)))))).andThen yields_value

/-- R237: `LOCK(L)` with the lock bit set. -/
theorem trimsTo_lock (hv : (f 0).getLsbD (lockBit c L).2 = true) (h : Answered s (lockCount L) f) :
    TrimsTo (Reference.lock c L) s (lockEvents c L f)
      (trimmed c (lanes L) (shift 1 f) s.vco) := by
  have hreads : transactions (readEvents c.baseOscCode (lanes L) (shift 1 f)) = width L :=
    (readEvents_transactions _).transactions_eq.trans (readEvents_length _)
  rw [lockEvents_eq]
  refine trimsTo_seq rfl (fun h => (yields_testLock (h 0 Nat.one_pos) hv).trimsTo) (fun h => ?_) h
  refine trimsTo_seq hreads (fun h => trimsTo_forEach _ h) (fun h => ?_) h
  exact (yields_seq transactions_enableEvents yields_enableTx yields_flushFifo h).trimsTo

end

/-! ## RUN_FREQ_PLL (R237, R238, R240) -/

section

variable {L : LaneId} {f : Nat → Word} {s : State}

/-- R237: `FP(L)` with the lock bit set. -/
theorem trimsTo_freqPll (hv : (f (acqCount L)).getLsbD (lockBit (cfgOf s) L).2 = true)
    (h : Answered s (acqCount L + lockCount L) f) :
    TrimsTo (freqPll (cfgOf s) L) s
      (acqEvents (cfgOf s) L f ++ lockEvents (cfgOf s) L (shift (acqCount L) f))
      (trimmed (cfgOf s) (lanes L) (shift 1 (shift (acqCount L) f)) s.vco) :=
  trimsTo_seq transactions_acqEvents (fun h => (yields_acq h).trimsTo)
    (fun h => trimsTo_lock hv h) h

/-- R237: `FP(L)` with the lock bit clear. -/
theorem freqPll_unlocked (hv : (f (acqCount L)).getLsbD (lockBit (cfgOf s) L).2 = false)
    (h : Answered s (acqCount L + 1) f) :
    freqPll (cfgOf s) L s = some (.error .txPllNotLocked,
      played (acqEvents (cfgOf s) L f ++ [.rd (lockBit (cfgOf s) L).1 (f (acqCount L))]) s) := by
  have hacq : acq (cfgOf s) L s = some (.ok (), played (acqEvents (cfgOf s) L f) s) :=
    yields_acq fun j hj => h j (by omega)
  have hlater := answered_played (es := acqEvents (cfgOf s) L f) h (by rw [transactions_acqEvents])
  rw [transactions_acqEvents] at hlater
  simp only [freqPll, Reference.lock, Reference.andThen, hacq,
    testLock_clear (c := cfgOf s) (hlater 0 Nat.one_pos) hv, played_append]
  rfl

/-- Completed primitives after a command's Begin event have one event each. -/
theorem played_began_length {es : List Event} (i : Instr) :
    (played es (record (.began .host (kindOf i) (laneOperand i)) s)).trace.length =
      s.trace.length + 1 + es.length := by
  rw [played_trace, record_trace, List.length_append, List.length_reverse, List.length_cons,
    Nat.add_comm]

end

/-- Settles O39: the stage's pseudocode, answered, returns with the trims updated or gives up at the
lock test, and each of its events is one step. -/
theorem freqPllResult : Obligations.FreqPllResult := by
  intro L a d f s c g es short hs
  refine ⟨fun hv hf => ?_, fun hv hf => ?_⟩
  · rw [show transactions es = acqCount L + lockCount L by
      simp only [es, transactions_append, transactions_acqEvents, transactions_lockEvents]] at hf
    exact execTimes_of_body (fuel := 0) hs
      (trimsTo_freqPll (s := record (.began .host .runFreqPll (some L)) s) hv hf)
      (played_began_length (.runFreqPll L))
  · rw [show transactions short = acqCount L + 1 by
      simp only [short, transactions_append, transactions_acqEvents]
      rfl] at hf
    exact execTimes_of_body_error (fuel := 0) hs (by decide)
      (freqPll_unlocked (s := record (.began .host .runFreqPll (some L)) s) hv hf)
      (played_began_length (.runFreqPll L))

end Sys2Proof.Machine
end

section
/-! The statement of the block's own invocations (spec/43_freq_pll R237, spec/44_orchestrator R262,
spec/45_monitor_probe R295 to R300): a recovery inside a tick and an interrupt attempt, each from its
first primitive to its end. -/

namespace Sys2Proof.Machine

open Reference

/-! ## How a procedure ends -/

section

variable {code : List MicroOp} {x y z : Invocation × State} {o : RecoveryOutcome} {s t : State}

/-- A procedure that performs a primitive is not over. -/
theorem Advances.not_over (h : Advances code x y) : endOf code x.1.pos = none := by
  obtain ⟨hpos, hop, -⟩ := h
  rw [hpos, endOf_run, if_neg (by simp [hop])]

/-- A primitive leads to a position in the code or to a failing outcome (R336). -/
theorem Advances.leads (h : Advances code x y) :
    (∃ n, y.1.pos = .run n) ∨ ∃ o, y.1.pos = .returned o ∧ o ≠ .success := by
  obtain @⟨n, op, p, inv, inv', s, t, -, -, hgoes⟩ := h
  rcases perform_shape op n inv goTo release s with
    ⟨_, p', inv'', u, heq, -, -, -, -, hp, -⟩ | ⟨_, heq, -⟩
  · have hinv := congrArg State.inv ((hgoes goTo release).symm.trans heq)
    simp only [goTo_inv, Option.some.injEq, Invocation.mk.injEq] at hinv
    obtain ⟨-, rfl, -⟩ := hinv
    refine hp.imp_right fun ⟨o, ho, hf⟩ => ⟨o, ho, ?_⟩
    rintro rfl
    cases hf
  · have hinv := congrArg State.inv ((hgoes goTo release).symm.trans heq)
    simp at hinv

/-- A procedure that a primitive does not end is at a primitive. -/
theorem Advances.runs_on (h : Advances code x y) (hy : endOf code y.1.pos = none) :
    ∃ n, y.1.pos = .run n := by
  refine h.leads.resolve_right ?_
  rintro ⟨o, ho, -⟩
  rw [ho] at hy
  cases hy

/-- Who holds the sequencer and the interrupt lines are as they were. -/
structure Unmoved (s t : State) : Prop where
  lock : t.lock = s.lock
  irq2 : t.irq2 = s.irq2
  irq3 : t.irq3 = s.irq3

theorem Unmoved.refl (s : State) : Unmoved s s := ⟨rfl, rfl, rfl⟩

theorem Unmoved.trans {u : State} (h : Unmoved s t) (g : Unmoved t u) : Unmoved s u :=
  ⟨g.lock.trans h.lock, g.irq2.trans h.irq2, g.irq3.trans h.irq3⟩

theorem Unmoved.irqGet (h : Unmoved s t) (l : IrqLane) : irqGet t l = irqGet s l := by
  cases l with
  | l2 => exact h.irq2
  | l3 => exact h.irq3

theorem Kept.unmoved (h : Kept s t) : Unmoved s t := ⟨h.lock, h.irq2, h.irq3⟩

theorem Advances.unmoved (h : Advances code x y) : Unmoved x.2 y.2 := by
  obtain @⟨n, op, p, inv, inv', s, t, -, -, hgoes⟩ := h
  rcases perform_shape op n inv goTo release s with
    ⟨_, p', inv'', u, heq, -, -, -, -, -, hkept, -⟩ | ⟨_, heq, -⟩
  · have hsame := (hgoes goTo release).symm.trans heq
    exact ⟨(congrArg State.lock hsame).trans hkept.lock,
      (congrArg State.irq2 hsame).trans hkept.irq2, (congrArg State.irq3 hsame).trans hkept.irq3⟩
  · have hinv := congrArg State.inv ((hgoes goTo release).symm.trans heq)
    simp at hinv

theorem Walks.unmoved (h : Walks code x y) : Unmoved x.2 y.2 := by
  induction h with
  | refl => exact .refl _
  | tail _ h ih => exact ih.trans h.unmoved

/-- The state with no invocation. -/
def withoutInv (s : State) : State := { s with inv := none }

theorem FailsIn.unmoved {op : MicroOp} {n : Nat} {inv : Invocation} (h : FailsIn op n inv s t) :
    Unmoved s t := by
  rcases perform_shape op n inv goTo withoutInv s with ⟨_, p, inv', u, heq, -⟩ | ⟨_, heq, -⟩
  · have hinv := congrArg State.inv ((h goTo withoutInv).symm.trans heq)
    cases hinv
  · have hsame := (h goTo withoutInv).symm.trans heq
    have hpre := (kept_applyPre op.pre s).unmoved
    have hlock := congrArg State.lock hsame
    have hirq2 := congrArg State.irq2 hsame
    have hirq3 := congrArg State.irq3 hsame
    simp only [withoutInv, record_lock, record_irq2, record_irq3, drawReply_lock, drawReply_irq2,
      drawReply_irq3] at hlock hirq2 hirq3
    exact hpre.trans ⟨hlock, hirq2, hirq3⟩

/-- The next primitive of `z` is the procedure's last: it ends the procedure with the outcome `o` in
the state `t`, or its transaction fails (R333). -/
inductive Finishes (code : List MicroOp) (z : Invocation × State) : RecoveryOutcome → State → Prop
  where
  | ends {y : Invocation × State} {o : RecoveryOutcome} (h : Advances code z y)
      (hend : endOf code y.1.pos = some o) : Finishes code z o y.2
  | transport {n : Nat} {op : MicroOp} {t : State} (hpos : z.1.pos = .run n)
      (hop : code[n]? = some op) (hfails : FailsIn op n z.1 z.2 t) :
      Finishes code z .transportError (setTransportFault t)

theorem Finishes.unmoved (h : Finishes code z o t) : Unmoved z.2 t := by
  cases h with
  | ends h => exact h.unmoved
  | transport _ _ hfails => exact hfails.unmoved.trans ⟨rfl, rfl, rfl⟩

/-- Primitives that end a procedure have a last one, before which it is not over. -/
theorem Walks.finishes (hw : Walks code x y) (hx : endOf code x.1.pos = none)
    (hy : endOf code y.1.pos = some o) :
    ∃ z, Walks code x z ∧ endOf code z.1.pos = none ∧ Finishes code z o y.2 := by
  cases hw with
  | refl => cases hx.symm.trans hy
  | tail hw h => exact ⟨_, hw, h.not_over, .ends h hy⟩

/-- A procedure that is not over and reaches the end of its pseudocode has a last primitive. -/
theorem Reaches.finishes {Q : Unit → Locals} {r : Except RecoveryOutcome Unit}
    (h : Reaches code x code.length Q r t) (hx : endOf code x.1.pos = none) :
    ∃ z, Walks code x z ∧ endOf code z.1.pos = none ∧ Finishes code z (resultOf r) t := by
  cases r with
  | ok _ =>
    obtain ⟨inv, hw, hpos, -⟩ := h
    exact hw.finishes hx (by rw [hpos]; exact if_neg (Nat.lt_irrefl _))
  | error o =>
    obtain ⟨y, hw, hfails⟩ := h
    cases hfails with
    | returned hpos => exact hw.finishes hx (by rw [hpos]; rfl)
    | transport hpos hop hfails =>
      exact ⟨_, hw, by rw [hpos, endOf_run, if_neg (by simp [hop])], .transport hpos hop hfails⟩

end

/-! ## Moves of the sequencer through a procedure -/

section

variable {n m : Nat} {next : Lane} {s t : State}

/-- One move, then the rest. -/
theorem sequencerTimes_succ (h : sequencerMove exec next s = .next t) :
    sequencerTimes (n + 1) next s = sequencerTimes n next t := by
  simp only [sequencerTimes, h]

/-- A run of `n` moves, then `m` more. -/
theorem sequencerTimes_add (h : sequencerTimes n next s = .next t) :
    sequencerTimes (n + m) next s = sequencerTimes m next t := by
  induction n generalizing s with
  | zero =>
    cases h
    rw [Nat.zero_add]
  | succ n ih =>
    rw [Nat.add_right_comm]
    simp only [sequencerTimes] at h ⊢
    split at h
    · exact ih h
    · cases h
    · cases h

/-- The invocation and state `x` are ones of the procedure `p`, under the configuration `c`. -/
def RunsAt (c : Cfg) (p : Proc) (x : Invocation × State) : Prop := x.1.proc = p ∧ cfgOf x.2 = c

variable {code : List MicroOp} {c : Cfg} {p : Proc} {ag : Agent} {x y : Invocation × State}

theorem RunsAt.walks (h : RunsAt c p x) (hw : Walks code x y) : RunsAt c p y :=
  ⟨hw.kept.2.trans h.1, hw.kept.1.trans h.2⟩

/-- Where each primitive that does not end the procedure is one move, so are some of them. -/
theorem sequencerTimes_of_walks
    (hmove : ∀ x y, RunsAt c p x → Advances code x y → endOf code y.1.pos = none →
      sequencerMove exec next (holding ag x.1 x.2) = .next (holding ag y.1 y.2))
    (hx : RunsAt c p x) (hw : Walks code x y) (hy : endOf code y.1.pos = none) :
    ∃ n, sequencerTimes n next (holding ag x.1 x.2) = .next (holding ag y.1 y.2) := by
  induction hw with
  | refl => exact ⟨0, rfl⟩
  | tail hw hstep ih =>
    obtain ⟨n, hn⟩ := ih hstep.not_over
    refine ⟨n + 1, ?_⟩
    rw [sequencerTimes_add hn, sequencerTimes_succ (hmove _ _ (hx.walks hw) hstep hy)]
    rfl

/-- An invocation that reaches the end of its pseudocode leaves what its last primitive leads to. -/
theorem sequencerTimes_of_reaches {Q : Unit → Locals} {r : Except RecoveryOutcome Unit}
    {G : State → Prop}
    (hmove : ∀ x y, RunsAt c p x → Advances code x y → endOf code y.1.pos = none →
      sequencerMove exec next (holding ag x.1 x.2) = .next (holding ag y.1 y.2))
    (hlast : ∀ z, RunsAt c p z → Unmoved x.2 z.2 → Finishes code z (resultOf r) t →
      ∃ n u, sequencerTimes (n + 1) next (holding ag z.1 z.2) = .next u ∧ G u)
    (hx : RunsAt c p x) (hstart : endOf code x.1.pos = none)
    (h : Reaches code x code.length Q r t) :
    ∃ n u, sequencerTimes (n + 1) next (holding ag x.1 x.2) = .next u ∧ G u := by
  obtain ⟨z, hw, hz, hfinishes⟩ := h.finishes hstart
  obtain ⟨n, hn⟩ := sequencerTimes_of_walks hmove hx hw hz
  obtain ⟨m, u, hm, hG⟩ := hlast z (hx.walks hw) hw.unmoved hfinishes
  exact ⟨n + m, u, by rw [Nat.add_assoc, sequencerTimes_add hn, hm], hG⟩

/-- A held sequencer takes the next step of the invocation. -/
theorem sequencerMove_holding {inv : Invocation} :
    sequencerMove exec next (holding ag inv s) = resume exec next (holding ag inv s) :=
  sequencerMove_held (ag := ag) rfl

/-- A state whose sequencer `ag` holds, with another invocation. -/
theorem holding_eq_withInv {inv : Invocation} (h : s.lock = some ag) :
    holding ag inv s = withInv inv s := by
  unfold holding withInv
  rw [← h]

end

/-! ## A recovery inside a tick (R262, R295, R298) -/

section

variable {next : Lane} {L : LaneId} {left : List LaneId} {inv : Invocation} {s t : State}
  {o : RecoveryOutcome} {c : Cfg} {x y z : Invocation × State}

/-- A step of a recovery whose next primitive is `op`. -/
theorem recoveryStep_op {n : Nat} {op : MicroOp} (hpos : inv.pos = .run n)
    (hop : (recoverCode (cfgOf s) L .monitor)[n]? = some op) :
    recoveryStep next L left inv s = perform op n inv
      (recoveryGoes next L left (recoverCode (cfgOf s) L .monitor))
      (recoveryFailed next L left inv) s := by
  simp only [recoveryStep, hpos, hop]

/-- The step of a recovery that is over. -/
theorem recoveryStep_over (h : endOf (recoverCode (cfgOf s) L .monitor) inv.pos = some o) :
    recoveryStep next L left inv s = recoveryOver next L left o inv s := by
  unfold recoveryStep
  cases hpos : inv.pos with
  | run n =>
    rw [hpos, endOf_run] at h
    split at h
    next hop =>
      cases h
      simp only [hop]
    next => cases h
  | returned o' | retried o' =>
    rw [hpos] at h
    cases h
    rfl

theorem recoveryReturned_eq : recoveryReturned o L s = recovered L o s := by
  unfold recoveryReturned recovered recoverEnd
  split <;> rfl

theorem recovered_holding {ag : Agent} :
    recovered L o (holding ag inv s) = holding ag inv (recovered L o s) := by
  unfold recovered
  split <;> rfl

theorem recovered_lock : (recovered L o s).lock = s.lock := by
  unfold recovered
  split <;> rfl

/-- With no recovery left the tick ends with Success. -/
theorem recoveryOver_nil : recoveryOver next L [] o inv s = tickEnd .success (recovered L o s) := by
  rw [recoveryOver, recoveryReturned_eq]
  rfl

/-- The tick's invocation as the next recovery begins (R296). -/
def nextRecovery (next : Lane) (left : List LaneId) (inv : Invocation) : Invocation :=
  let following := pickRecovery next left
  { inv with proc := .tick (.recover following (left.erase following)), pos := .run 0 }

/-- With recoveries left the next one begins. -/
theorem chooseNext_of_ne_nil (hleft : left ≠ []) : chooseNext next left inv s =
    withInv (nextRecovery next left inv)
      (record (.began .monitor .recover (some (pickRecovery next left))) s) := by
  cases left with
  | nil => exact absurd rfl hleft
  | cons L left => rfl

theorem recoveryOver_of_ne_nil (hleft : left ≠ []) :
    recoveryOver next L left o inv s = chooseNext next left inv (recovered L o s) := by
  rw [← recoveryReturned_eq]
  cases left with
  | nil => exact absurd rfl hleft
  | cons L left => rfl

theorem sequencerMove_recovery (h : inv.proc = .tick (.recover L left)) :
    sequencerMove exec next (holding .monitor inv s) =
      .next (recoveryStep next L left inv (holding .monitor inv s)) := by
  rw [sequencerMove_holding]
  simp only [resume, holding, h, tickStep]

/-- One primitive is one move, in which the recovery may end. -/
theorem sequencerMove_of_advances (hx : RunsAt c (.tick (.recover L left)) x)
    (h : Advances (recoverCode c L .monitor) x y) :
    sequencerMove exec next (holding .monitor x.1 x.2) =
      .next (recoveryGoes next L left (recoverCode c L .monitor) y.1.pos y.1
        (holding .monitor x.1 y.2)) := by
  rw [sequencerMove_recovery hx.1]
  obtain ⟨-, rfl⟩ := hx
  obtain @⟨n, op, p, inv, inv', s, t, hpos, hop, hgoes⟩ := h
  rw [recoveryStep_op (s := holding .monitor inv s) hpos hop, perform_holding, hgoes]
  rfl

/-- One primitive that does not end the recovery. -/
theorem recovery_goes_on (hx : RunsAt c (.tick (.recover L left)) x)
    (h : Advances (recoverCode c L .monitor) x y)
    (hy : left = [] ∨ endOf (recoverCode c L .monitor) y.1.pos = none) :
    sequencerMove exec next (holding .monitor x.1 x.2) = .next (holding .monitor y.1 y.2) := by
  rw [sequencerMove_of_advances hx h, recoveryGoes]
  rcases hy with rfl | hy
  · split <;> rfl
  · rw [hy]
    rfl

/-- What the end of a recovery leaves (R262, R295, R298): the tick's end, or the next recovery at its
start. -/
def AfterRecovery (next : Lane) (left : List LaneId) (u v : State) : Prop :=
  (left = [] → v = tickEnd .success u) ∧
  (left ≠ [] → ∃ inv, v = withInv (nextRecovery next left inv)
    (record (.began .monitor .recover (some (pickRecovery next left))) u))

/-- The next recovery begins in the step that ends one. -/
theorem afterRecovery_chooseNext (hleft : left ≠ []) (hlock : t.lock = some .monitor) :
    AfterRecovery next left (recovered L o t)
      (chooseNext next left inv (recovered L o (holding .monitor x.1 t))) := by
  refine ⟨fun h => absurd h hleft, fun _ => ⟨inv, ?_⟩⟩
  rw [chooseNext_of_ne_nil hleft, recovered_holding, holding_eq_withInv (recovered_lock.trans hlock)]
  rfl

/-- With no recovery left the tick's final step is next. -/
theorem chooseNext_nil {inv' : Invocation} : chooseNext next [] inv (holding .monitor inv' s) =
    holding .monitor { inv with proc := .tick .finish, pos := .run 0 } s := rfl

theorem sequencerMove_finish (h : inv.proc = .tick .finish) :
    sequencerMove exec next (holding .monitor inv s) = .next (tickEnd .success s) := by
  rw [sequencerMove_holding]
  simp only [resume, holding, h, tickStep]
  rfl

/-- The last primitive of a recovery, and what follows it. -/
theorem recovery_finishes (hz : RunsAt c (.tick (.recover L left)) z)
    (hlock : t.lock = some .monitor) (h : Finishes (recoverCode c L .monitor) z o t) :
    ∃ n u, sequencerTimes (n + 1) next (holding .monitor z.1 z.2) = .next u ∧
      AfterRecovery next left (recovered L o t) u := by
  cases h with
  | @ends y o h hend =>
    by_cases hleft : left = []
    · have hy : RunsAt c (.tick (.recover L left)) y := hz.walks (.single h)
      have hover := sequencerMove_recovery (next := next) (s := y.2) hy.1
      rw [recoveryStep_over (s := holding .monitor y.1 y.2) (by rw [← hy.2] at hend; exact hend)]
        at hover
      subst hleft
      refine ⟨1, _, ?_, fun _ => rfl, fun h => absurd rfl h⟩
      rw [sequencerTimes_succ (recovery_goes_on hz h (.inl rfl)), sequencerTimes_succ hover,
        recoveryOver_nil, recovered_holding]
      rfl
    · refine ⟨0, _, sequencerTimes_succ (sequencerMove_of_advances hz h), ?_⟩
      simp only [recoveryGoes, hend, if_neg hleft, recoveryOver_of_ne_nil hleft]
      exact afterRecovery_chooseNext hleft hlock
  | @transport n op t hpos hop hfails =>
    have hmove : sequencerMove exec next (holding .monitor z.1 z.2) = .next (chooseNext next left z.1
        (recovered L .transportError (holding .monitor z.1 (setTransportFault t)))) := by
      rw [sequencerMove_recovery hz.1]
      obtain ⟨-, rfl⟩ := hz
      rw [recoveryStep_op (s := holding .monitor z.1 z.2) hpos hop, perform_holding, hfails,
        ← recoveryReturned_eq]
      rfl
    by_cases hleft : left = []
    · subst hleft
      refine ⟨1, _, ?_, fun _ => rfl, fun h => absurd rfl h⟩
      rw [recovered_holding, chooseNext_nil] at hmove
      rw [sequencerTimes_succ hmove]
      exact sequencerTimes_succ (sequencerMove_finish rfl)
    · exact ⟨0, _, sequencerTimes_succ hmove, afterRecovery_chooseNext hleft hlock⟩

end

/-! ## An interrupt attempt (R300, R333) -/

section

variable {next : Lane} {l : IrqLane} {inv : Invocation} {s t : State} {o : RecoveryOutcome} {c : Cfg}
  {x y z : Invocation × State}

/-- The step of an attempt whose next primitive is `op`. -/
theorem attemptStep_op {n : Nat} {op : MicroOp} (hpos : inv.pos = .run n)
    (hop : (fpCode (cfgOf s) (.lane (irqLaneOf l)))[n]? = some op) :
    attemptStep l inv s = perform op n inv (attemptGoes l)
      (fun s => attemptGoes l (.returned .transportError) inv (setTransportFault s)) s := by
  simp only [attemptStep, hpos, hop]

/-- The step of an attempt whose FP has returned Success. -/
theorem attemptStep_done {n : Nat} (hpos : inv.pos = .run n)
    (hop : (fpCode (cfgOf s) (.lane (irqLaneOf l)))[n]? = none) :
    attemptStep l inv s = endAttempt l .success s := by
  simp only [attemptStep, hpos, hop]

theorem sequencerMove_attempt (h : inv.proc = .irqRetry l) :
    sequencerMove exec next (holding (irqAgent l) inv s) =
      .next (attemptStep l inv (holding (irqAgent l) inv s)) := by
  rw [sequencerMove_holding]
  simp only [resume, holding, h]

/-- One primitive is one move, with the Log event where FP returns a failure. -/
theorem sequencerMove_attempt_advances
    (hx : RunsAt c (.irqRetry l) x) (h : Advances (fpCode c (.lane (irqLaneOf l))) x y) :
    sequencerMove exec next (holding (irqAgent l) x.1 x.2) =
      .next (attemptGoes l y.1.pos y.1 (holding (irqAgent l) x.1 y.2)) := by
  rw [sequencerMove_attempt hx.1]
  obtain ⟨-, rfl⟩ := hx
  obtain @⟨n, op, p, inv, inv', s, t, hpos, hop, hgoes⟩ := h
  rw [attemptStep_op (s := holding (irqAgent l) inv s) hpos hop, perform_holding, hgoes]
  cases p <;> rfl

/-- One primitive after which FP has not returned a failure. -/
theorem attempt_goes_on {n : Nat} (hx : RunsAt c (.irqRetry l) x)
    (h : Advances (fpCode c (.lane (irqLaneOf l))) x y) (hy : y.1.pos = .run n) :
    sequencerMove exec next (holding (irqAgent l) x.1 x.2) =
      .next (holding (irqAgent l) y.1 y.2) := by
  rw [sequencerMove_attempt_advances hx h, hy, attemptGoes, ← hy]
  rfl

theorem endBurst_eq (ok : Bool) : endBurst l ok s = burstEnd l ok s := rfl

/-- The end of an attempt frees the sequencer, whoever held it. -/
theorem endAttempt_holding {ag : Agent} :
    endAttempt l o (holding ag inv s) = endAttempt l o s := rfl

/-- An attempt that succeeds (R300). -/
theorem attemptEnd_success : attemptEnd l .success s = endAttempt l .success s :=
  (endBurst_eq true).symm

/-- The Log event of a failed attempt (R300). -/
def logFailure (l : IrqLane) (o : RecoveryOutcome) (s : State) : State :=
  record (.logged (irqAgent l) (some (.lane (irqLaneOf l))) o) s

@[simp] theorem irqGet_logFailure : irqGet (logFailure l o s) l = irqGet s l := by
  cases l <;> rfl

@[simp] theorem irqGet_waitFor {d : Delay} : irqGet (waitFor d s) l = irqGet s l := by
  cases l <;> rfl

/-- The eighth attempt that fails ends the burst (R300). -/
theorem endAttempt_failure (ho : o ≠ .success) : endAttempt l o s =
    if (irqGet s l).attempts = 8 then
      burstEnd l false
        (release (record (.ended (irqAgent l) .irqRetry (some (.lane (irqLaneOf l))) o) s))
    else release (record (.ended (irqAgent l) .irqRetry (some (.lane (irqLaneOf l))) o) s) := by
  rw [endAttempt, if_neg ho, endBurst_eq]
  cases l <;> rfl

/-- An attempt that fails with no delay after it (R300, R12). -/
theorem attemptEnd_now (ho : o ≠ .success)
    (h : (irqGet s l).attempts = 8 ∨ durationOf (cfgOf s) .tIrqRetry = 0) :
    attemptEnd l o s = endAttempt l o (logFailure l o s) := by
  rw [endAttempt_failure ho, irqGet_logFailure]
  unfold attemptEnd
  refine (if_neg ho).trans ?_
  split
  · rfl
  next hlast => exact if_pos (h.resolve_left hlast)

/-- An attempt that fails and is delayed (R300). -/
theorem attemptEnd_delayed (ho : o ≠ .success) (hlast : (irqGet s l).attempts ≠ 8)
    (hdelay : durationOf (cfgOf s) .tIrqRetry ≠ 0) :
    attemptEnd l o s = endAttempt l o (waitFor .tIrqRetry (logFailure l o s)) := by
  rw [endAttempt_failure ho, irqGet_waitFor, irqGet_logFailure, if_neg hlast]
  unfold attemptEnd
  exact (if_neg ho).trans ((if_neg hlast).trans (if_neg hdelay))

/-- The moves of an attempt whose FP has returned a failure. -/
theorem attempt_returned (hproc : inv.proc = .irqRetry l) (hpos : inv.pos = .returned o)
    (ho : o ≠ .success) (hle : (irqGet s l).attempts ≤ 8) :
    ∃ n, sequencerTimes (n + 1) next (holding (irqAgent l) inv (logFailure l o s)) =
      .next (attemptEnd l o s) := by
  have hirq : irqGet (holding (irqAgent l) inv (logFailure l o s)) l = irqGet s l := by
    cases l <;> rfl
  have hmove := sequencerMove_attempt (next := next) (s := logFailure l o s) hproc
  simp only [attemptStep, hpos, attemptReturned, hirq] at hmove
  by_cases hdelay : (irqGet s l).attempts = 8 ∨ durationOf (cfgOf s) .tIrqRetry = 0
  · rw [if_neg (by rintro ⟨-, hlt, hne⟩; exact hdelay.elim hlt.ne hne)] at hmove
    exact ⟨0, by rw [sequencerTimes_succ hmove, attemptEnd_now ho hdelay]; rfl⟩
  · obtain ⟨hlast, hzero⟩ := not_or.mp hdelay
    rw [if_pos ⟨ho, lt_of_le_of_ne hle hlast, hzero⟩] at hmove
    have hend := sequencerMove_attempt (next := next) (inv := { inv with pos := .retried o })
      (s := waitFor .tIrqRetry (logFailure l o s)) hproc
    refine ⟨1, ?_⟩
    rw [sequencerTimes_succ hmove, attemptEnd_delayed ho hlast hzero]
    exact sequencerTimes_succ hend

/-- The last primitive of an attempt's FP, and what follows it. -/
theorem attempt_finishes (hz : RunsAt c (.irqRetry l) z) (hle : (irqGet t l).attempts ≤ 8)
    (h : Finishes (fpCode c (.lane (irqLaneOf l))) z o t) :
    ∃ n, sequencerTimes (n + 1) next (holding (irqAgent l) z.1 z.2) =
      .next (attemptEnd l o t) := by
  cases h with
  | @ends y o h hend =>
    have hy : RunsAt c (.irqRetry l) y := hz.walks (.single h)
    rcases h.leads with ⟨n, hpos⟩ | ⟨o', hpos, ho⟩
    · rw [hpos, endOf_run] at hend
      split at hend
      next hop =>
        cases hend
        have hdone := sequencerMove_attempt (next := next) (s := y.2) hy.1
        rw [attemptStep_done hpos (hy.2.symm ▸ hop), endAttempt_holding, ← attemptEnd_success]
          at hdone
        exact ⟨1, (sequencerTimes_succ (attempt_goes_on hz h hpos)).trans
          (sequencerTimes_succ hdone)⟩
      next => cases hend
    · rw [hpos] at hend
      cases hend
      have hmove := sequencerMove_attempt_advances (next := next) hz h
      rw [hpos, attemptGoes] at hmove
      obtain ⟨n, hn⟩ := attempt_returned (next := next) hy.1 hpos ho hle
      refine ⟨n + 1, ?_⟩
      rw [sequencerTimes_succ hmove, ← hn, ← hpos]
      rfl
  | @transport n op t hpos hop hfails =>
    have hmove : sequencerMove exec next (holding (irqAgent l) z.1 z.2) =
        .next (attemptGoes l (.returned .transportError) z.1
          (holding (irqAgent l) z.1 (setTransportFault t))) := by
      rw [sequencerMove_attempt hz.1]
      obtain ⟨-, rfl⟩ := hz
      rw [attemptStep_op (s := holding (irqAgent l) z.1 z.2) hpos hop, perform_holding, hfails]
      rfl
    obtain ⟨n, hn⟩ := attempt_returned (next := next) (s := setTransportFault t)
      (inv := { z.1 with pos := .returned .transportError }) hz.1 rfl (by decide) hle
    refine ⟨n + 1, ?_⟩
    rw [sequencerTimes_succ hmove, ← hn]
    rfl

/-- The invocation of an attempt as it begins (R300). -/
def attemptStart (l : IrqLane) : Invocation :=
  { proc := .irqRetry l, pos := .run 0, v := 0#16, allDone := false }

/-- The state in which an attempt begins, once its grant is drawn: the attempt is counted and has its
Begin event (R300). -/
def attemptBegun (l : IrqLane) (rest : List Agent) (s : State) : State :=
  irqSet l { irqGet s l with attempts := (irqGet s l).attempts + 1 }
    { s with
      trace := .began (irqAgent l) .irqRetry (some (.lane (irqLaneOf l))) :: s.trace
      grants := rest }

theorem beginAttempt_eq {rest : List Agent} : beginAttempt l { s with grants := rest } =
    holding (irqAgent l) (attemptStart l) (attemptBegun l rest s) := by
  cases l <;> rfl

theorem attemptBegun_attempts {rest : List Agent} :
    (irqGet (attemptBegun l rest s) l).attempts = (irqGet s l).attempts + 1 := by
  cases l <;> rfl

theorem grantTo_irqAgent : grantTo exec (irqAgent l) next s = .next (grantIrq l s) := by
  cases l <;> rfl

/-- A grant that the block may follow begins an attempt with its first primitive (R300). -/
theorem grantIrq_attempt (hbound : s.bound = true) (hdetach : detachAccepted s = false) :
    grantIrq l s = attemptStep l (attemptStart l) (beginAttempt l s) := by
  have hinv : (beginAttempt l s).inv = some (attemptStart l) := by cases l <;> rfl
  simp only [grantIrq, hbound, hdetach, hinv]
  rfl

/-- The grant of an attempt is a move of the attempt as it runs (R300). -/
theorem sequencerMove_granted {rest : List Agent} (hfree : s.lock = none)
    (hchoice : grantChoice s = some (irqAgent l, rest)) (hbound : s.bound = true)
    (hdetach : detachAccepted s = false) :
    sequencerMove exec next s =
      sequencerMove exec next (holding (irqAgent l) (attemptStart l) (attemptBegun l rest s)) := by
  rw [sequencerMove_attempt rfl, sequencerMove_free hfree, grant, hchoice]
  dsimp only
  rw [grantTo_irqAgent, grantIrq_attempt (s := { s with grants := rest }) hbound hdetach,
    beginAttempt_eq]

theorem fpCode_ne_nil {L : LaneId} : fpCode c L ≠ [] := by
  simp [fpCode, acqCode, faSeq, lanes_ne_nil]

end

/-- A procedure with a primitive is not over at its start. -/
theorem endOf_start {code : List MicroOp} (h : code ≠ []) : endOf code (.run 0) = none :=
  if_pos (List.length_pos_iff.mpr h)

/-- A recovery inside a tick does what its pseudocode does, and the tick goes on (R262, R295). -/
theorem recovery_refines {fuel : Nat} {next : Lane} {L : LaneId} {left : List LaneId}
    {inv : Invocation} {r : Except RecoveryOutcome Unit} {s t : State}
    (hlock : s.lock = some .monitor) (hinv : s.inv = some inv)
    (hproc : inv.proc = .tick (.recover L left)) (hpos : inv.pos = .run 0)
    (hrun : recover fuel (cfgOf s) L .monitor s = some (r, t)) :
    ∃ n u, sequencerTimes (n + 1) next s = .next u ∧
      AfterRecovery next left (recovered L (resultOf r) t) u := by
  have hheld : holding .monitor inv s = s := by
    rw [holding_eq_withInv hlock, withInv, ← hinv]
  have hreaches := follows_recoverCode (c := cfgOf s) (L := L) fuel .monitor _ 0 (.self _) inv s r t
    hpos trivial rfl hrun
  rw [Nat.zero_add] at hreaches
  have hstart : endOf (recoverCode (cfgOf s) L .monitor) inv.pos = none := by
    rw [hpos]
    exact endOf_start (recoverCode_ne_nil _ L .monitor)
  have hends := sequencerTimes_of_reaches (next := next) (ag := .monitor) (x := (inv, s))
    (code := recoverCode (cfgOf s) L .monitor) (c := cfgOf s) (p := .tick (.recover L left))
    (G := AfterRecovery next left (recovered L (resultOf r) t))
    (fun _ _ hx h hy => recovery_goes_on hx h (.inr hy))
    (fun z hz hmoved h => recovery_finishes hz (h.unmoved.lock.trans (hmoved.lock.trans hlock)) h)
    ⟨hproc, rfl⟩ hstart hreaches
  rwa [hheld] at hends

/-- An attempt, from its grant on, does what FP does and ends as R300 says. -/
theorem attempt_refines {next : Lane} {l : IrqLane} {rest : List Agent}
    {r : Except RecoveryOutcome Unit} {s t : State} (hfree : s.lock = none)
    (hchoice : grantChoice s = some (irqAgent l, rest)) (hbound : s.bound = true)
    (hdetach : detachAccepted s = false) (hlt : (irqGet s l).attempts < 8)
    (hrun : freqPll (cfgOf s) (.lane (irqLaneOf l)) (attemptBegun l rest s) = some (r, t)) :
    ∃ n, sequencerTimes n next s = .next (attemptEnd l (resultOf r) t) := by
  have hconf : cfgOf (attemptBegun l rest s) = cfgOf s := by cases l <;> rfl
  have hreaches := follows_fpCode (L := .lane (irqLaneOf l)) _ 0 (.self _) (attemptStart l)
    (attemptBegun l rest s) r t rfl trivial hconf hrun
  rw [Nat.zero_add] at hreaches
  have hlast (z : Invocation × State) (hz : RunsAt (cfgOf s) (.irqRetry l) z)
      (hmoved : Unmoved (attemptBegun l rest s) z.2)
      (h : Finishes (fpCode (cfgOf s) (.lane (irqLaneOf l))) z (resultOf r) t) :
      ∃ n u, sequencerTimes (n + 1) next (holding (irqAgent l) z.1 z.2) = .next u ∧
        u = attemptEnd l (resultOf r) t := by
    have hattempts : (irqGet t l).attempts ≤ 8 := by
      rw [(hmoved.trans h.unmoved).irqGet, attemptBegun_attempts]
      exact hlt
    obtain ⟨n, hn⟩ := attempt_finishes hz hattempts h
    exact ⟨n, _, hn, rfl⟩
  obtain ⟨n, v, hn, rfl⟩ := sequencerTimes_of_reaches (next := next) (ag := irqAgent l)
    (fun _ _ hx h hy => (h.runs_on hy).elim fun _ hpos => attempt_goes_on hx h hpos)
    hlast ⟨rfl, hconf⟩ (endOf_start fpCode_ne_nil) hreaches
  refine ⟨n + 1, ?_⟩
  rw [← hn, sequencerTimes, sequencerMove_granted hfree hchoice hbound hdetach, ← sequencerTimes]

/-- Settles O60: a recovery's code follows its pseudocode, and an attempt's code FP, to the last
primitive, each primitive being one move; what follows the last one is R262's and R300's end. -/
theorem invocationsRefineReference : Obligations.InvocationsRefineReference := by
  refine ⟨fun fuel L left next inv r s t hlock hinv hproc hpos hrun => ?_,
    fun l next rest r s t hfree hchoice hbound hdetach hrun hlt =>
      attempt_refines hfree hchoice hbound hdetach hlt hrun⟩
  obtain ⟨n, u, hn, hnil, hne⟩ := recovery_refines (next := next) hlock hinv hproc hpos hrun
  refine ⟨n + 1, fun hleft => by rw [hn, hnil hleft], fun hleft => ?_⟩
  obtain ⟨inv', rfl⟩ := hne hleft
  exact ⟨_, rfl, rfl, hn⟩

end Sys2Proof.Machine
end

section
/-! The statement of the orchestrator's transition table (spec/44_orchestrator R260, R262): where
the primitives of each stage lead, and what every step does to the stage of the running RECOVER. -/

namespace Sys2Proof.Machine

/-! ## The primitives of a list by their index -/

/-- Each primitive of the list, which stands at index `k` of a procedure, is as `P` says. -/
def Each (P : Nat → MicroOp → Prop) (k : Nat) (ops : List MicroOp) : Prop :=
  ∀ n op, ops[n]? = some op → P (k + n) op

section

variable {P : Nat → MicroOp → Prop} {k : Nat} {xs ys : List MicroOp} {op : MicroOp}

theorem Each.nil : Each P k [] := fun _ _ h => by simp at h

theorem Each.append (hx : Each P k xs) (hy : Each P (k + xs.length) ys) : Each P k (xs ++ ys) := by
  intro n op hop
  rw [List.getElem?_append] at hop
  split at hop
  next => exact hx n op hop
  next =>
    have hidx : k + n = k + xs.length + (n - xs.length) := by omega
    exact hidx ▸ hy _ op hop

theorem Each.cons (ho : P k op) (h : Each P (k + 1) xs) : Each P k (op :: xs) :=
  Each.append (xs := [op]) (by rintro (_ | n) _ ⟨⟩; exact ho) h

end

/-! ## Primitives that lead to the next one -/

/-- Every primitive of the list leads to the next one only. -/
def Sequential (ops : List MicroOp) : Prop :=
  ∀ op ∈ ops, ∀ n, nextPositions op n = [.run (n + 1)]

section

variable {c : Cfg} {L : LaneId} {xs ys : List MicroOp}

theorem Sequential.append (hx : Sequential xs) (hy : Sequential ys) : Sequential (xs ++ ys) :=
  List.forall_mem_append.mpr ⟨hx, hy⟩

theorem Sequential.cons {op : MicroOp} (ho : ∀ n, nextPositions op n = [.run (n + 1)])
    (h : Sequential xs) : Sequential (op :: xs) := List.forall_mem_cons.mpr ⟨ho, h⟩

theorem Sequential.nil : Sequential [] := List.forall_mem_nil _

theorem Sequential.flatMap {α : Type} {f : α → List MicroOp} (h : ∀ x, Sequential (f x))
    (l : List α) : Sequential (l.flatMap f) := by
  intro op ho
  obtain ⟨x, -, hx⟩ := List.mem_flatMap.mp ho
  exact h x op hx

theorem Sequential.map {α : Type} {f : α → MicroOp}
    (h : ∀ x n, nextPositions (f x) n = [.run (n + 1)]) (l : List α) : Sequential (l.map f) :=
  List.forall_mem_map.mpr fun x _ => h x

/-- A read and the write of what is made of its value. -/
theorem sequential_writeBack (a : Word) (f : Back) :
    Sequential [opOf (.read a .keep), opOf (.writeBack a f)] :=
  .cons (fun _ => rfl) (.cons (fun _ => rfl) .nil)

theorem sequential_assertSeq (d : Domain) : Sequential (assertSeq c d L) :=
  .flatMap (fun _ => sequential_writeBack _ _) _

theorem sequential_deassertSeq (d : Domain) : Sequential (deassertSeq c d L) :=
  .flatMap (fun _ => sequential_writeBack _ _) _

theorem sequential_waitOps (t : Delay) : Sequential (waitOps c t) := by
  unfold waitOps
  split
  · exact .nil
  · exact .cons (fun _ => rfl) .nil

theorem sequential_azTrigger (ls : List Lane) : Sequential (azTrigger c ls) := by
  induction ls using azTrigger.induct with
  | case1 => exact .nil
  | case2 l => exact .cons (fun _ => rfl) (.cons (fun _ => rfl) .nil)
  | case3 l ls hls ih =>
    rw [azTrigger]
    · exact .cons (fun _ => rfl) (.cons (fun _ => rfl) ih)
    · exact hls

theorem sequential_azArm : Sequential (azArm c L) :=
  ((((Sequential.map (fun _ _ => rfl) _).append (.map (fun _ _ => rfl) _)).append
    (.cons (fun _ => rfl) .nil)).append (sequential_deassertSeq _)).append (sequential_azTrigger _)

theorem sequential_azFinish : Sequential (azFinish c L) :=
  (Sequential.flatMap (fun _ => .flatMap (fun _ => sequential_writeBack _ _) _) _).append
    (.cons (fun _ => rfl) .nil)

theorem sequential_acqCode : Sequential (acqCode c L) := by
  refine ((((((Sequential.map (fun _ _ => rfl) _).append (.map (fun _ _ => rfl) _)).append
    (sequential_waitOps _)).append (.map (fun _ _ => rfl) _)).append (sequential_waitOps _)).append
    (.map (fun _ _ => rfl) _)).append ?_
  cases L with
  | lane l =>
    exact ((((sequential_assertSeq _).append (sequential_assertSeq _)).append
      (sequential_deassertSeq _)).append (sequential_waitOps _)).append (sequential_deassertSeq _)
  | allLanes => exact (sequential_assertSeq _).append (sequential_deassertSeq _)

/-- LockTesting is the lock test, one read, and primitives that lead each to the next (R233 to
R237). -/
theorem lockCode_eq : ∃ a b rest, lockCode c L = opOf (.read a (.lockTest b)) :: rest ∧
    Sequential rest ∧ rest ≠ [] := by
  have hflush : Sequential (fifoFlushSeq c) := .cons (fun _ => rfl) (.cons (fun _ => rfl)
    (.cons (fun _ => rfl) (.cons (fun _ => rfl) .nil)))
  have hvco : Sequential (vcoUpdateSeq c L) := .map (fun _ _ => rfl) _
  have hne (xs : List MicroOp) : xs ++ fifoFlushSeq c ≠ [] := by simp [fifoFlushSeq]
  cases L with
  | lane l => exact ⟨_, _, _, rfl, (hvco.append (sequential_deassertSeq _)).append hflush, hne _⟩
  | allLanes =>
    exact ⟨_, _, _, rfl, (hvco.append ((sequential_deassertSeq _).append
      (sequential_writeBack _ _))).append hflush, hne _⟩

end

/-! ## Where the primitives of a stage lead -/

/-- The position is inside a stage, past its first primitive and at most right after its last one,
at `hi`; or the stage has returned its own outcome `o`. -/
def Within (lo hi : Nat) (o : Option RecoveryOutcome) : Position → Prop
  | .run n => lo < n ∧ n ≤ hi
  | .returned o' => o = some o'
  | .retried _ => False

/-- The primitive leads to positions of the stage that stands from `lo` to `hi`. -/
def KeepsWithin (lo hi : Nat) (o : Option RecoveryOutcome) (n : Nat) (op : MicroOp) : Prop :=
  ∀ p ∈ nextPositions op n, Within lo hi o p

section

variable {c : Cfg} {L : LaneId} {lo hi k : Nat} {o : Option RecoveryOutcome} {ops : List MicroOp}

theorem Sequential.keepsWithin (h : Sequential ops) (hlo : lo ≤ k) (hhi : k + ops.length ≤ hi) :
    Each (KeepsWithin lo hi o) k ops := by
  intro n op hop p hp
  obtain ⟨hlt, -⟩ := List.getElem?_eq_some_iff.mp hop
  rw [h op (List.mem_of_getElem? hop), List.mem_singleton] at hp
  subst hp
  exact ⟨by omega, by omega⟩

/-- The reads of an attempt: the next attempt begins at the first of them, and what follows the poll
is at `onDone` after the last. -/
theorem azReads_keepsWithin {onDone back : Nat} (hdone : 1 ≤ onDone) {ls : List Lane}
    (hlo : lo ≤ k) (hback : lo + back < k + ls.length) (hhi : k + ls.length + onDone ≤ hi + 1) :
    ∀ first,
      Each (KeepsWithin lo hi (some .autoZeroTimeout)) k (azReads c onDone back first ls) := by
  induction ls generalizing k with
  | nil => exact fun _ => .nil
  | cons l ls ih =>
    intro first
    rw [List.length_cons] at hback hhi
    cases ls with
    | nil =>
      rw [List.length_nil] at hback hhi
      refine .cons ?_ .nil
      simp only [KeepsWithin, nextPositions, usePositions, opOf, List.forall_mem_cons, Within,
        List.not_mem_nil, false_imp_iff, implies_true, and_true]
      omega
    | cons l' ls =>
      refine .cons (fun p hp => ?_) (ih (by omega) (by omega) (by omega) false)
      rw [show nextPositions _ k = [Position.run (k + 1)] from rfl, List.mem_singleton] at hp
      subst hp
      rw [List.length_cons] at hhi
      exact ⟨by omega, by omega⟩

theorem azPollSeq_keepsWithin (hlo : lo < k) (hhi : k + (azPollSeq c L).length ≤ hi) :
    Each (KeepsWithin lo hi (some .autoZeroTimeout)) k (azPollSeq c L) := by
  unfold azPollSeq at hhi ⊢
  split at hhi
  next h0 =>
    rw [length_azReads] at hhi
    rw [if_pos h0]
    exact azReads_keepsWithin le_rfl (by omega) (by omega) (by omega) _
  next h0 =>
    rw [List.length_append, length_azReads, List.length_singleton] at hhi
    rw [if_neg h0]
    have hlanes := List.length_pos_iff.mpr (lanes_ne_nil L)
    refine (azReads_keepsWithin (by omega) (by omega) (by omega) (by omega) _).append
      (.cons (fun p hp => ?_) .nil)
    rw [length_azReads, nextPositions, List.mem_singleton] at hp
    subst hp
    exact ⟨by omega, by omega⟩

theorem azArm_ne_nil : azArm c L ≠ [] := by simp [azArm]

/-- The primitives of CalibratingAZ (R201 to R204). -/
theorem azCode_keepsWithin :
    Each (KeepsWithin k (k + (azCode c L).length) (some .autoZeroTimeout)) k (azCode c L) := by
  have harm := List.length_pos_iff.mpr (azArm_ne_nil (c := c) (L := L))
  have hlen : (azCode c L).length =
      (azArm c L).length + (azPollSeq c L).length + (azFinish c L).length := by
    simp [azCode, Nat.add_assoc]
  rw [hlen]
  refine ((sequential_azArm.keepsWithin le_rfl (by omega)).append
    (azPollSeq_keepsWithin (by omega) (by omega))).append
    (sequential_azFinish.keepsWithin (by omega) ?_)
  rw [List.length_append]
  omega

/-- The primitives of ResetAsserted (R263, R264). -/
theorem raCode_keepsWithin :
    Each (KeepsWithin 0 (raCode c L).length (some .regulatorCalibrationTimeout)) 0
      (raCode c L) := by
  cases L with
  | lane l =>
    exact ((sequential_assertSeq _).append (sequential_waitOps _)).keepsWithin le_rfl
      (by simp [raCode])
  | allLanes =>
    have hwrite : KeepsWithin 0 (raCode c .allLanes).length (some .regulatorCalibrationTimeout) 0
        { act := .write c.aMrst Config.patAllReset, post := .regcalStart } := by
      simp [KeepsWithin, nextPositions, Within, raCode]
    refine .cons hwrite ?_
    simp only [raCode]
    split
    · exact .cons (by simp [KeepsWithin, nextPositions, usePositions, opOf, Within]) .nil
    · exact .cons (by simp [KeepsWithin, nextPositions, usePositions, opOf, Within])
        (.cons (by simp [KeepsWithin, nextPositions, opOf, Within]) .nil)

/-- The primitives of LockTesting (R233 to R237). -/
theorem lockCode_keepsWithin :
    Each (KeepsWithin k (k + (lockCode c L).length) (some .txPllNotLocked)) k (lockCode c L) := by
  obtain ⟨a, b, rest, heq, hrest, -⟩ := lockCode_eq (c := c) (L := L)
  rw [heq, List.length_cons]
  refine .cons ?_ (hrest.keepsWithin (by omega) (by omega))
  simp only [KeepsWithin, nextPositions, usePositions, opOf, List.forall_mem_cons, Within,
    List.not_mem_nil, false_imp_iff, implies_true, and_true]
  omega

end

/-! ## The stage of each primitive of a recovery (R262) -/

/-- The state `f` is that of a RECOVER of `L` at a position: the stage of the primitive before it,
or the one whose own outcome the RECOVER has returned (R260, R262). -/
def AtStage (c : Cfg) (L : LaneId) (f : Fsm) : Position → Prop
  | .run n => f = stageAt c L n
  | .returned o | .retried o => stageFailure f = some o

/-- The primitive `op` at index `n` of the recovery `code` of `L` belongs to the stage
`stageAt c L (n + 1)`: it enters that stage or is in it, and it leads to positions of that stage. Of
the primitives that enter a stage only the lock test can end the recovery. -/
structure InStage (c : Cfg) (L : LaneId) (code : List MicroOp) (n : Nat) (op : MicroOp) : Prop where
  enters : ∀ s, op.pre ≠ .nothing ∨ s.fsm = stageAt c L n →
    (applyPre op.pre s).fsm = stageAt c L (n + 1)
  leads : ∀ p ∈ nextPositions op n, AtStage c L (stageAt c L (n + 1)) p
  first : op.pre ≠ .nothing → ∀ p ∈ nextPositions op n, ∀ o, endOf code p = some o →
    stageAt c L (n + 1) = .lockTesting ∧ o = .txPllNotLocked

section

variable {c : Cfg} {L : LaneId} {ag : Agent} {code ops : List MicroOp} {lo : Nat}
  {l : Pre} {f : Fsm}

theorem atStage_of_within {hi : Nat} {p : Position}
    (hstage : ∀ n, lo < n → n ≤ hi → stageAt c L n = f) (h : Within lo hi (stageFailure f) p) :
    AtStage c L f p := by
  cases p with
  | run n => exact (hstage n h.1 h.2).symm
  | returned o => exact h
  | retried o => exact h.elim

/-- The primitives of one stage, which stand from `lo` on and whose label enters the stage `f`. -/
theorem Each.inStage (hstage : ∀ n, lo < n → n ≤ lo + ops.length → stageAt c L n = f)
    (hlabel : ∀ s, (applyPre l s).fsm = f) (hplain : Plain ops)
    (hkeeps : Each (KeepsWithin lo (lo + ops.length) (stageFailure f)) lo ops)
    (hfirst : ∀ op, ops.head? = some op → ∀ p ∈ nextPositions op lo, ∀ o, endOf code p = some o →
      f = .lockTesting ∧ o = .txPllNotLocked) :
    Each (InStage c L code) lo (withPre l ops) := by
  cases ops with
  | nil => exact .nil
  | cons op ops =>
    have hleads (n : Nat) (op' : MicroOp) (hop : (op :: ops)[n]? = some op') :
        ∀ p ∈ nextPositions op' (lo + n), AtStage c L f p :=
      fun p hp => atStage_of_within hstage (hkeeps n op' hop p hp)
    have hhead : stageAt c L (lo + 1) = f :=
      hstage _ (by omega) (by rw [List.length_cons]; omega)
    refine .cons ⟨fun s _ => ?_, ?_, fun _ => ?_⟩ fun n op' hop => ?_
    · rw [hhead]
      exact hlabel s
    · rw [hhead]
      exact hleads 0 op rfl
    · rw [hhead]
      exact hfirst op rfl
    · have hlt := (List.getElem?_eq_some_iff.mp hop).1
      have hnext : stageAt c L (lo + 1 + n + 1) = f :=
        hstage _ (by omega) (by rw [List.length_cons]; omega)
      have hhere : stageAt c L (lo + 1 + n) = f :=
        hstage _ (by omega) (by rw [List.length_cons]; omega)
      have hpre : op'.pre = .nothing :=
        hplain op' (List.mem_cons_of_mem _ (List.mem_of_getElem? hop))
      refine ⟨fun s hs => ?_, ?_, fun hne => absurd hpre hne⟩
      · rw [hpre, hnext, ← hhere]
        exact hs.resolve_left (not_not_intro hpre)
      · rw [hnext, show lo + 1 + n = lo + (n + 1) by omega]
        exact hleads (n + 1) op' hop

/-- A first primitive that leads to the next one, where that is in the code, ends nothing. -/
theorem not_over_of_next {op : MicroOp} {o : RecoveryOutcome} {p : Position}
    (hop : nextPositions op lo = [.run (lo + 1)]) (hlt : lo + 1 < code.length)
    (hp : p ∈ nextPositions op lo) (ho : endOf code p = some o) : False := by
  rw [hop, List.mem_singleton] at hp
  subst hp
  rw [endOf, if_pos hlt] at ho
  cases ho

theorem recoverCode_length : (recoverCode c L ag).length = (raCode c L).length +
    (azCode c L).length + (acqCode c L).length + (lockCode c L).length := by
  simp only [recoverCode, List.length_append, length_withPre]

theorem azCode_ne_nil : azCode c L ≠ [] := by simp [azCode, azArm_ne_nil]

theorem acqCode_ne_nil : acqCode c L ≠ [] := by
  simp [acqCode, faSeq, lanes_ne_nil]

theorem two_le_lockCode_length : 2 ≤ (lockCode c L).length := by
  obtain ⟨a, b, rest, heq, -, hne⟩ := lockCode_eq (c := c) (L := L)
  rw [heq, List.length_cons]
  exact Nat.succ_le_succ (List.length_pos_iff.mpr hne)

/-- The first primitive of ResetAsserted leads to the next one. -/
theorem raCode_head {op : MicroOp} (h : (raCode c L).head? = some op) (n : Nat) :
    nextPositions op n = [.run (n + 1)] := by
  cases L <;> cases h <;> rfl

theorem azCode_head {op : MicroOp} (h : (azCode c L).head? = some op) (n : Nat) :
    nextPositions op n = [.run (n + 1)] := by
  rw [azCode, List.append_assoc, List.head?_append_of_ne_nil _ azArm_ne_nil] at h
  exact sequential_azArm op (List.mem_of_mem_head? h) n

/-- Every primitive of a recovery is of its index's stage (R262). -/
theorem recoverCode_inStage (c : Cfg) (L : LaneId) (ag : Agent) :
    Each (InStage c L (recoverCode c L ag)) 0 (recoverCode c L ag) := by
  have hlen := recoverCode_length (c := c) (L := L) (ag := ag)
  have hra := List.length_pos_iff.mpr (raCode_ne_nil c L)
  have haz := List.length_pos_iff.mpr (azCode_ne_nil (c := c) (L := L))
  have hacq := List.length_pos_iff.mpr (acqCode_ne_nil (c := c) (L := L))
  have hlock := two_le_lockCode_length (c := c) (L := L)
  have hstart : Each (InStage c L (recoverCode c L ag)) 0
      (withPre (.recoverStart L ag) (raCode c L)) :=
    .inStage (f := .resetAsserted) (fun n _ hn => by rw [stageAt, if_pos (by omega)]) (fun _ => rfl)
      (plain_ra c L) (by rw [Nat.zero_add]; exact raCode_keepsWithin)
      fun op hop p hp o ho => (not_over_of_next (raCode_head hop 0) (by omega) hp ho).elim
  have hcal : Each (InStage c L (recoverCode c L ag)) (raCode c L).length
      (withPre (.stage .calibratingAZ) (azCode c L)) :=
    .inStage (f := .calibratingAZ)
      (fun n hlo hn => by rw [stageAt, if_neg (by omega), if_pos (by omega)]) (fun _ => rfl)
      (plain_az c L) azCode_keepsWithin
      fun op hop p hp o ho => (not_over_of_next (azCode_head hop _) (by omega) hp ho).elim
  have hfreq : Each (InStage c L (recoverCode c L ag)) ((raCode c L).length + (azCode c L).length)
      (withPre (.stage .acquiringFrequency) (acqCode c L)) :=
    .inStage (f := .acquiringFrequency)
      (fun n hlo hn => by rw [stageAt, if_neg (by omega), if_neg (by omega), if_pos (by omega)])
      (fun _ => rfl) (plain_acq c L) (sequential_acqCode.keepsWithin le_rfl le_rfl)
      fun op hop p hp o ho => (not_over_of_next
        (sequential_acqCode op (List.mem_of_mem_head? hop) _) (by omega) hp ho).elim
  have htest : Each (InStage c L (recoverCode c L ag))
      ((raCode c L).length + (azCode c L).length + (acqCode c L).length)
      (withPre (.stage .lockTesting) (lockCode c L)) := by
    refine .inStage (f := .lockTesting)
      (fun n hlo hn => by rw [stageAt, if_neg (by omega), if_neg (by omega), if_neg (by omega)])
      (fun _ => rfl) (plain_lock c L) lockCode_keepsWithin fun op hop p hp o ho => ⟨rfl, ?_⟩
    obtain ⟨a, b, rest, heq, -, -⟩ := lockCode_eq (c := c) (L := L)
    rw [heq] at hop
    cases hop
    simp only [nextPositions, opOf, usePositions, List.mem_cons, List.not_mem_nil, or_false] at hp
    rcases hp with rfl | rfl
    · rw [endOf, if_pos (by omega)] at ho
      cases ho
    · cases ho
      rfl
  have happend := ((hstart.append (ys := withPre (.stage .calibratingAZ) (azCode c L)) ?_).append
    (ys := withPre (.stage .acquiringFrequency) (acqCode c L)) ?_).append
    (ys := withPre (.stage .lockTesting) (lockCode c L)) ?_
  · exact happend
  · simpa only [length_withPre, Nat.zero_add] using hcal
  · simpa only [List.length_append, length_withPre, Nat.zero_add] using hfreq
  · simpa only [List.length_append, length_withPre, Nat.zero_add] using htest

end

/-! ## The moves of the orchestrator's state (R260) -/

/-- A RECOVER in the state `f` can end with `o`: Success after LockTesting, the stage's own outcome,
TransportError, or, its lock test being next, that test's outcome. -/
inductive MayEnd : Fsm → RecoveryOutcome → Prop where
  | transport (f : Fsm) : MayEnd f .transportError
  | success : MayEnd .lockTesting .success
  | own {f : Fsm} {o : RecoveryOutcome} (h : stageFailure f = some o) : MayEnd f o
  | lockTest : MayEnd .acquiringFrequency .txPllNotLocked

/-- From `s` to `t` the orchestrator moves as R260 says. -/
structure Ordered (s t : State) : Prop where
  moves : fsmMoves s.fsm t.fsm = true
  failure : s.fsm ≠ .failed → t.fsm = .failed →
    t.reason = some .transportError ∨ t.reason = stageFailure s.fsm ∨
    (s.fsm = .acquiringFrequency ∧ t.reason = stageFailure .lockTesting)

section

variable {c : Cfg} {L : LaneId} {ag : Agent} {s t u : State} {n : Nat} {op : MicroOp} {p : Position}
  {o : RecoveryOutcome}

theorem fsmMoves_self (f : Fsm) : fsmMoves f f = true := by cases f <;> rfl

theorem fsmMoves_failed (f : Fsm) : fsmMoves f .failed = true := by cases f <;> rfl

theorem stageFailure_ne_success {f : Fsm} : stageFailure f ≠ some .success := by cases f <;> decide

theorem Ordered.of_fsm_eq (h : t.fsm = s.fsm) : Ordered s t :=
  ⟨by rw [h, fsmMoves_self], fun hs ht => absurd (h ▸ ht) hs⟩

theorem SameFsm.ordered (h : SameFsm s t) : Ordered s t := .of_fsm_eq h.fsm

theorem Ordered.trans_same (h : Ordered s t) (g : SameFsm t u) : Ordered s u :=
  ⟨by rw [g.fsm]; exact h.moves, by rw [g.fsm, g.reason]; exact h.failure⟩

/-- A RECOVER may enter ResetAsserted where none is in progress (R262). -/
theorem Ordered.start (hs : inProgress s.fsm = false) (ht : t.fsm = .resetAsserted) :
    Ordered s t := by
  refine ⟨?_, fun _ h => nomatch ht.symm.trans h⟩
  rw [ht]
  cases hf : s.fsm with
  | idle | locked | failed => rfl
  | _ =>
    rw [hf] at hs
    cases hs

/-- The end of a RECOVER, whatever its last step did before it (R262, R268). -/
theorem MayEnd.ordered (h : MayEnd s.fsm o) : Ordered s (recoverEnd o t) := by
  unfold recoverEnd
  split
  next ho =>
    subst ho
    refine ⟨?_, by rintro - ⟨⟩⟩
    generalize s.fsm = f at h
    cases h with
    | success => rfl
    | own h => exact absurd h stageFailure_ne_success
  next ho =>
    refine ⟨fsmMoves_failed _, fun _ _ => ?_⟩
    generalize s.fsm = f at h
    cases h with
    | transport => exact .inl rfl
    | success => exact absurd rfl ho
    | own h => exact .inr (.inl h.symm)
    | lockTest => exact .inr (.inr ⟨rfl, rfl⟩)

/-- From one primitive to the next a recovery is in the same stage or in the next one (R262). -/
theorem stageAt_moves (c : Cfg) (L : LaneId) (n : Nat) :
    fsmMoves (stageAt c L n) (stageAt c L (n + 1)) = true := by
  have haz := List.length_pos_iff.mpr (azCode_ne_nil (c := c) (L := L))
  have hacq := List.length_pos_iff.mpr (acqCode_ne_nil (c := c) (L := L))
  unfold stageAt
  split_ifs <;> first | rfl | omega

theorem stageAt_one : stageAt c L 1 = .resetAsserted :=
  if_pos (List.length_pos_iff.mpr (raCode_ne_nil c L))

theorem stageAt_ne_failed : stageAt c L n ≠ .failed := by
  unfold stageAt
  split_ifs <;> decide

/-- A position with no primitive left is past the last one, in LockTesting. -/
theorem AtStage.mayEnd {f : Fsm} (h : AtStage c L f p)
    (hover : endOf (recoverCode c L ag) p = some o) : MayEnd f o := by
  cases p with
  | run n =>
    have hlock := two_le_lockCode_length (c := c) (L := L)
    have hlen := recoverCode_length (c := c) (L := L) (ag := ag)
    rw [endOf_run] at hover
    split at hover
    next hdone =>
      cases hover
      have hn := List.getElem?_eq_none_iff.mp hdone
      have hlast : f = .lockTesting := by
        rw [h, stageAt, if_neg (by omega), if_neg (by omega), if_neg (by omega)]
      rw [hlast]
      exact .success
    next => cases hover
  | returned o' | retried o' =>
    cases hover
    exact .own h

/-- A primitive of a recovery in the order of R260: what is before it, its label, and its end. -/
theorem recoverCode_ordered (hop : (recoverCode c L ag)[n]? = some op)
    (hstart : n = 0 → inProgress s.fsm = false) (hs : n ≠ 0 → s.fsm = stageAt c L n)
    (hu : u.fsm = (applyPre op.pre s).fsm) (hp : p ∈ nextPositions op n) :
    Ordered s u ∧ AtStage c L u.fsm p ∧
      ∀ o, endOf (recoverCode c L ag) p = some o → MayEnd s.fsm o := by
  have hin := recoverCode_inStage c L ag n op hop
  rw [Nat.zero_add] at hin
  have hlabel : n = 0 → op.pre ≠ .nothing := by
    rintro rfl
    rw [recoverCode_first hop]
    exact fun h => nomatch h
  have hfsm : u.fsm = stageAt c L (n + 1) := by
    refine hu.trans (hin.enters s ?_)
    by_cases hn : n = 0
    · exact .inl (hlabel hn)
    · exact .inr (hs hn)
  refine ⟨?_, hfsm ▸ hin.leads p hp, fun o ho => ?_⟩
  · by_cases hn : n = 0
    · subst hn
      exact .start (hstart rfl) (hfsm.trans stageAt_one)
    · exact ⟨by rw [hs hn, hfsm]; exact stageAt_moves c L n,
        fun _ h => absurd (hfsm.symm.trans h) stageAt_ne_failed⟩
  · by_cases hpre : op.pre = .nothing
    · have hsame : u.fsm = s.fsm := by rw [hu, hpre]; rfl
      rw [← hsame, hfsm]
      exact (hin.leads p hp).mayEnd ho
    · obtain ⟨hlast, rfl⟩ := hin.first hpre p hp o ho
      have hn : n ≠ 0 := by
        rintro rfl
        exact nomatch stageAt_one.symm.trans hlast
      have hmoves := stageAt_moves c L n
      rw [hs hn]
      rw [hlast] at hmoves
      generalize stageAt c L n = f at hmoves
      cases f with
      | acquiringFrequency => exact .lockTest
      | lockTesting => exact .own rfl
      | _ => cases hmoves

end

/-! ## The stage of the running recovery within a step -/

/-- What `StageInv` says of the position of `inv` (R260, R262). -/
def Positioned (inv : Invocation) (s : State) : Prop :=
  ∀ r, recovering inv = some r → AtStage (cfgOf s) r.1 s.fsm inv.pos

/-- What a step has to show: it keeps `StageInv`, and it moves the orchestrator as R260 says. -/
structure StageStep (s t : State) : Prop where
  inv : StageInv t
  ordered : Ordered s t

/-- The orchestrator's registers are as they were, and no RECOVER is in progress in `t`. -/
structure Aside (s t : State) : Prop where
  same : SameFsm s t
  idle : t.inv.bind recovering = none

section

variable {s t u : State} {inv inv' : Invocation} {n : Nat} {op : MicroOp} {p : Position}
  {o : RecoveryOutcome} {code : List MicroOp}

theorem stageInv_iff : StageInv s ↔ ∀ inv, s.inv = some inv → Positioned inv s := by
  constructor
  · intro ⟨hrun, hret⟩ inv hi r hr
    unfold AtStage
    split
    next n hpos => exact (hrun inv r n hi hr hpos).2
    next o hpos => exact hret inv r o hi hr (.inl hpos)
    next o hpos => exact hret inv r o hi hr (.inr hpos)
  · intro h
    refine ⟨fun inv r n hi hr hpos => ?_, fun inv r o hi hr hpos => ?_⟩
    · have hat := h inv hi r hr
      rw [hpos] at hat
      refine ⟨Nat.one_le_iff_ne_zero.mpr ?_, hat⟩
      rintro rfl
      rw [recovering, if_pos hpos] at hr
      cases hr
    · have hat := h inv hi r hr
      rcases hpos with hpos | hpos <;>
      · rw [hpos] at hat
        exact hat

theorem recovering_none (h : recoverOf inv.proc = none) : recovering inv = none := by
  rw [recovering, h, ite_self]

theorem recovering_of_pos_ne (h : inv.pos ≠ .run 0) : recovering inv = recoverOf inv.proc :=
  if_neg h

/-- An invocation at its start is in no stage yet. -/
theorem positioned_start (h : inv.pos = .run 0) : Positioned inv s := by
  intro r hr
  rw [recovering, if_pos h] at hr
  cases hr

theorem Aside.stageInv (h : Aside s t) : StageInv t := by
  refine stageInv_iff.mpr fun inv hi r hr => ?_
  have hidle := h.idle
  rw [hi, Option.bind_some, hr] at hidle
  cases hidle

theorem Aside.stageStep (h : Aside u t) (ho : Ordered s u) : StageStep s t :=
  ⟨h.stageInv, ho.trans_same h.same⟩

theorem Aside.of_same (h : SameFsm s u) (g : Aside u t) : Aside s t := ⟨h.trans g.same, g.idle⟩

theorem Ordered.of_same (h : SameFsm s u) (g : Ordered u t) : Ordered s t :=
  ⟨by rw [← h.fsm]; exact g.moves, by rw [← h.fsm]; exact g.failure⟩

theorem StageStep.of_same (h : SameFsm s u) (g : StageStep u t) : StageStep s t :=
  ⟨g.inv, g.ordered.of_same h⟩

/-- A RECOVER that is over was in the stage its outcome is of. -/
theorem Positioned.mayEnd (hs : Positioned inv s)
    (hc : RunsRecover (cfgOf s) (recoverOf inv.proc) code) (ho : endOf code inv.pos = some o) :
    ∀ r, recoverOf inv.proc = some r → MayEnd s.fsm o := by
  rintro ⟨L, ag⟩ hr
  rw [hr] at hc
  obtain ⟨rfl, -⟩ := hc
  have hpos : inv.pos ≠ .run 0 := by
    intro hpos
    rw [hpos, endOf_start (recoverCode_ne_nil _ L ag)] at ho
    cases ho
  exact (hs _ ((recovering_of_pos_ne hpos).trans hr)).mayEnd ho

/-- A primitive keeps to the order of R260, leaves a RECOVER at the stage of its next position, and
ends it, if it does, in the stage it was in. -/
theorem RunsRecover.passes (hc : RunsRecover (cfgOf s) (recoverOf inv.proc) code)
    (hpos : inv.pos = .run n) (hop : code[n]? = some op) (hf : FsmAt (recovering inv) s)
    (hs : Positioned inv s) (hu : Passes op n inv s p inv' u) :
    Ordered s u ∧ ∀ r, recoverOf inv.proc = some r →
      AtStage (cfgOf s) r.1 u.fsm p ∧ ∀ o, endOf code p = some o → MayEnd s.fsm o := by
  cases hr : recoverOf inv.proc with
  | none =>
    have hsame := hu.fsm
    rw [hr] at hc
    rw [hc op (List.mem_of_getElem? hop)] at hsame
    exact ⟨hsame.ordered, fun _ h => nomatch h⟩
  | some r =>
    obtain ⟨L, ag⟩ := r
    rw [hr] at hc
    obtain ⟨rfl, -⟩ := hc
    have hstart : n = 0 → inProgress s.fsm = false := by
      rintro rfl
      have hprogress := hf.progress_eq
      rw [recovering, if_pos hpos] at hprogress
      exact hprogress
    have hstage : n ≠ 0 → s.fsm = stageAt (cfgOf s) L n := by
      intro hn
      have hat := hs (L, ag) ((recovering_of_pos_ne (by rw [hpos]; simpa using hn)).trans hr)
      rwa [hpos] at hat
    obtain ⟨hordered, hat, hend⟩ := recoverCode_ordered hop hstart hstage hu.fsm.fsm hu.pos
    exact ⟨hordered, by rintro _ ⟨⟩; exact ⟨hat, hend⟩⟩

/-- With the position written back the step is over. -/
theorem Ordered.goTo (ho : Ordered s u) (hproc : inv'.proc = inv.proc) (hconf : u.conf = s.conf)
    (hat : ∀ r, recoverOf inv.proc = some r → AtStage (cfgOf s) r.1 u.fsm p) :
    StageStep s (goTo p inv' u) := by
  refine ⟨stageInv_iff.mpr ?_, ho.trans_same (by constructor <;> rfl)⟩
  rintro _ ⟨⟩ r hr
  have hcfg : cfgOf (Machine.goTo p inv' u) = cfgOf s := congrArg WfCfg.cfg hconf
  rw [recovering] at hr
  split at hr
  · cases hr
  · rw [hcfg]
    exact hat r (hproc ▸ hr)

/-- The failed transaction of a procedure that runs no RECOVER leaves the orchestrator alone. -/
theorem sameFsm_failed (h : op.pre = .nothing) (e : Event) :
    SameFsm s (setTransportFault (record e (drawReply (applyPre op.pre s)))) := by
  rw [h]
  constructor <;> simp [applyPre]

end

/-! ## The stages and the host's commands -/

section

variable {i : Instr} {a d : Word} {o : RecoveryOutcome} {s u : State} {inv : Invocation}

theorem finalOf_sameFsm (h : ∀ L, i ≠ .recover L) : SameFsm s (finalOf i o s) := by
  cases i with
  | recover L => exact absurd rfl (h L)
  | probe =>
    show SameFsm s (if o = .success then attach s else s)
    unfold attach
    dsimp only
    split
    · split <;> constructor <;> rfl
    · exact .refl s
  | _ => constructor <;> rfl

/-- The final updates of a command end its RECOVER, if it runs one (R262). -/
theorem ordered_finalOf (hend : ∀ r, recoverOf (.command i a d) = some r → MayEnd s.fsm o)
    (hsame : recoverOf (.command i a d) = none → SameFsm s u) : Ordered s (finalOf i o u) := by
  by_cases hrec : ∃ L, i = .recover L
  · obtain ⟨L, rfl⟩ := hrec
    exact (hend _ rfl).ordered
  · push Not at hrec
    exact ((hsame (recoverOf_command hrec)).trans (finalOf_sameFsm hrec)).ordered

theorem finishHost_aside : Aside s (finishHost i o s) := ⟨by constructor <;> rfl, rfl⟩

/-- Every step of a host command. -/
theorem hostAdvance_stageStep (hproc : inv.proc = .command i a d) (hf : FsmAt (recovering inv) s)
    (hs : Positioned inv s) :
    StageStep s (hostAdvance i (fun c a d => codeOf c a d i) (finalOf i) a d inv s) := by
  have hcode : RunsRecover (cfgOf s) (recoverOf inv.proc) (codeOf (cfgOf s) a d i) :=
    hproc ▸ codeOf_runsRecover _ _ _ _
  have hover {o : RecoveryOutcome} (ho : endOf (codeOf (cfgOf s) a d i) inv.pos = some o) :
      StageStep s (finishHost i o (finalOf i o s)) :=
    finishHost_aside.stageStep (ordered_finalOf (hproc ▸ hs.mayEnd hcode ho) fun _ => .refl s)
  unfold hostAdvance
  split
  next n hpos =>
    split
    next hop => exact hover (by rw [hpos, endOf_run, if_pos hop])
    next op hop =>
      rcases perform_passes op n inv goTo _ s with ⟨p, inv', u, heq, hu⟩ | ⟨e, heq⟩
      · rw [heq]
        obtain ⟨hordered, hat⟩ := hcode.passes hpos hop hf hs hu
        exact hordered.goTo hu.proc hu.kept.conf fun r hr => (hat r hr).1
      · rw [heq]
        refine finishHost_aside.stageStep
          (ordered_finalOf (a := a) (d := d) (fun _ _ => .transport _) fun hnone => ?_)
        rw [hproc, hnone] at hcode
        exact sameFsm_failed (hcode op (List.mem_of_getElem? hop)) e
  next o hpos => exact hover (by rw [hpos]; rfl)
  next o hpos => exact hover (by rw [hpos]; rfl)

end

/-! ## The stages and the monitor's ticks -/

section

variable {next : Lane} {L : LaneId} {left : List LaneId} {o : RecoveryOutcome} {s : State}
  {inv : Invocation}

theorem endTick_aside : Aside s (endTick o s) := ⟨by constructor <;> rfl, rfl⟩

/-- A phase begins before its first primitive. -/
theorem toPhase_aside {q : TickPhase} : Aside s (toPhase q inv s) :=
  ⟨by constructor <;> rfl, by simp [toPhase, recovering]⟩

theorem chooseNext_aside : Aside s (chooseNext next left inv s) := by
  unfold chooseNext
  split
  · exact toPhase_aside
  · exact .of_same (by constructor <;> rfl) toPhase_aside

theorem recoveryReturned_sameFsm : SameFsm (recoverEnd o s) (recoveryReturned o L s) := by
  unfold recoveryReturned
  dsimp only
  split <;> constructor <;> simp

theorem recoveryOver_aside : Aside (recoverEnd o s) (recoveryOver next L left o inv s) := by
  unfold recoveryOver
  split
  · exact .of_same recoveryReturned_sameFsm endTick_aside
  · exact .of_same recoveryReturned_sameFsm chooseNext_aside

/-- Every step of a recovery inside a tick. -/
theorem recoveryStep_stageStep (hproc : inv.proc = .tick (.recover L left))
    (hf : FsmAt (recovering inv) s) (hs : Positioned inv s) :
    StageStep s (recoveryStep next L left inv s) := by
  have hrec : recoverOf inv.proc = some (L, .monitor) := by rw [hproc]; rfl
  have hcode : RunsRecover (cfgOf s) (recoverOf inv.proc) (recoverCode (cfgOf s) L .monitor) := by
    rw [hrec]
    exact ⟨rfl, .inr rfl⟩
  have hover {o : RecoveryOutcome}
      (ho : endOf (recoverCode (cfgOf s) L .monitor) inv.pos = some o) :
      StageStep s (recoveryOver next L left o inv s) :=
    recoveryOver_aside.stageStep (hs.mayEnd hcode ho _ hrec).ordered
  unfold recoveryStep
  dsimp only
  split
  next n hpos =>
    split
    next hop => exact hover (by rw [hpos, endOf_run, if_pos hop])
    next op hop =>
      rcases perform_passes op n inv (recoveryGoes next L left _) (recoveryFailed next L left inv) s
        with ⟨p, inv', u, heq, hu⟩ | ⟨e, heq⟩
      · rw [heq]
        obtain ⟨hordered, hat⟩ := hcode.passes hpos hop hf hs hu
        have hgo : StageStep s (goTo p inv' u) :=
          hordered.goTo hu.proc hu.kept.conf fun r hr => (hat r hr).1
        unfold recoveryGoes
        split
        · exact hgo
        next o ho =>
          split
          · exact hgo
          · exact recoveryOver_aside.stageStep ((hat _ hrec).2 o ho).ordered
      · rw [heq]
        exact (chooseNext_aside.of_same recoveryReturned_sameFsm).stageStep
          (MayEnd.transport _).ordered
  next o hpos => exact hover (by rw [hpos]; rfl)
  next o hpos => exact hover (by rw [hpos]; rfl)

theorem sampleFailed_aside : Aside s (sampleFailed s) := by
  have hlogged :
      SameFsm s (record (.logged .monitor none .transportError) (setTransportFault s)) := by
    constructor <;> rfl
  exact endTick_aside.of_same hlogged

theorem sampleStep_aside {taken : List Bool} : Aside s (sampleStep next taken inv s) := by
  unfold sampleStep
  cases hr : nextReply s with
  | ok v =>
    rw [memRead_ok hr]
    dsimp only
    unfold sampleTaken
    split
    · exact .of_same (by constructor <;> rfl) chooseNext_aside
    · exact .of_same (by constructor <;> rfl) toPhase_aside
  | fail =>
    rw [memRead_fail hr]
    exact .of_same (by constructor <;> rfl) sampleFailed_aside

/-- Every step of a tick. -/
theorem tickStep_stageStep {phase : TickPhase} (hproc : inv.proc = .tick phase)
    (hf : FsmAt (recovering inv) s) (hs : Positioned inv s) :
    StageStep s (tickStep next phase inv s) := by
  cases phase with
  | sample taken => exact sampleStep_aside.stageStep (SameFsm.refl s).ordered
  | recover L left => exact recoveryStep_stageStep hproc hf hs
  | finish => exact endTick_aside.stageStep (SameFsm.refl s).ordered

end

/-! ## The stages and the interrupt attempts -/

section

variable {l : IrqLane} {o : RecoveryOutcome} {s : State} {inv : Invocation}

theorem irqSet_sameFsm (x : IrqLine) : SameFsm s (irqSet l x s) := by
  cases l <;> constructor <;> rfl

theorem endBurst_aside {ok : Bool} (h : s.inv = none) : Aside s (endBurst l ok s) :=
  ⟨irqSet_sameFsm _, by rw [endBurst, irqSet_inv, h]; rfl⟩

theorem endAttempt_aside : Aside s (endAttempt l o s) := by
  have hreleased (e : Event) : SameFsm s (release (record e s)) := by constructor <;> rfl
  unfold endAttempt
  dsimp only
  split
  · exact .of_same (hreleased _) (endBurst_aside rfl)
  · split
    · exact .of_same (hreleased _) (endBurst_aside rfl)
    · exact ⟨hreleased _, rfl⟩

theorem attemptGoes_aside {p : Position} (hproc : inv.proc = .irqRetry l) :
    Aside s (attemptGoes l p inv s) := by
  have hidle (q : Position) : recovering { inv with pos := q } = none :=
    recovering_none (by simp only [hproc]; rfl)
  cases p <;> exact ⟨by constructor <;> rfl, hidle _⟩

/-- An attempt runs no RECOVER (R300). -/
theorem attemptStep_aside (hproc : inv.proc = .irqRetry l) : Aside s (attemptStep l inv s) := by
  unfold attemptStep
  split
  next n hpos =>
    split
    · exact endAttempt_aside
    next op hop =>
      have hpre : op.pre = .nothing := plain_fp _ _ op (List.mem_of_getElem? hop)
      rcases perform_passes op n inv (attemptGoes l) _ s with ⟨p, inv', u, heq, hu⟩ | ⟨e, heq⟩
      · rw [heq]
        have hsame := hu.fsm
        rw [hpre] at hsame
        exact .of_same hsame (attemptGoes_aside (hu.proc.trans hproc))
      · rw [heq]
        exact .of_same (sameFsm_failed hpre e) (attemptGoes_aside hproc)
  next o hpos =>
    unfold attemptReturned
    split
    · exact .of_same (u := waitFor .tIrqRetry s) (by constructor <;> rfl)
        (attemptGoes_aside (p := .retried o) hproc)
    · exact endAttempt_aside
  · exact endAttempt_aside

theorem grantIrq_aside (h : s.inv = none) : Aside s (grantIrq l s) := by
  have hbegun : (beginAttempt l s).inv =
      some { proc := .irqRetry l, pos := .run 0, v := 0#16, allDone := false } := by
    simp [beginAttempt]
  have hsame : SameFsm s (beginAttempt l s) := by cases l <;> constructor <;> rfl
  unfold grantIrq
  split
  · exact endBurst_aside h
  · dsimp only
    rw [hbegun]
    exact .of_same hsame (attemptStep_aside rfl)

end

/-! ## The stages and the moves of the agents -/

section

variable {next : Lane} {s t : State}

/-- A grant begins an invocation, and a recovery of the host enters ResetAsserted (R262). -/
theorem grantTo_stageStep {who : Agent} (h : Inv s) (hs : StageInv s) (hfree : s.lock = none)
    (ht : grantTo exec who next s = .next t) : StageStep s t := by
  have hnone := h.inv_none hfree
  cases who with
  | host =>
    simp only [grantTo] at ht
    split at ht
    next c hc =>
      rw [exec_ready (a := c.addr) (d := c.data) ⟨hfree, hc⟩] at ht
      cases ht
      have hbegun : SameFsm s (beginHost c.cmd s) := by constructor <;> rfl
      have hf : FsmAt (recovering (startOf c.cmd c.addr c.data)) (beginHost c.cmd s) :=
        (h.fsmAt_free hnone).of_same hbegun
      exact (hostAdvance_stageStep rfl hf (positioned_start rfl)).of_same hbegun
    next => cases ht; exact ⟨hs, (SameFsm.refl s).ordered⟩
  | monitor =>
    cases ht
    exact (sampleStep_aside.of_same (by constructor <;> rfl)).stageStep (SameFsm.refl s).ordered
  | irq2 => cases ht; exact (grantIrq_aside hnone).stageStep (SameFsm.refl s).ordered
  | irq3 => cases ht; exact (grantIrq_aside hnone).stageStep (SameFsm.refl s).ordered

/-- A step of the running invocation. -/
theorem resume_stageStep (h : Inv s) (hs : StageInv s) (ht : resume exec next s = .next t) :
    StageStep s t := by
  unfold resume at ht
  split at ht
  next => cases ht; exact ⟨hs, (SameFsm.refl s).ordered⟩
  next inv hi =>
    have hpos : Positioned inv s := stageInv_iff.mp hs inv hi
    split at ht
    next c a d hp =>
      rw [exec_running ⟨by rw [(h.serving hi).lock_eq, hp]; rfl, hi, hp⟩] at ht
      cases ht
      exact hostAdvance_stageStep hp (h.fsmAt hi) hpos
    next phase hp => cases ht; exact tickStep_stageStep hp (h.fsmAt hi) hpos
    next l hp => cases ht; exact (attemptStep_aside hp).stageStep (SameFsm.refl s).ordered

/-- What `StageInv` and `Ordered` speak of is as it was. -/
structure SameStage (s t : State) : Prop extends SameFsm s t where
  conf : t.conf = s.conf
  inv : t.inv = s.inv

theorem SameStage.trans {u : State} (h : SameStage s t) (g : SameStage t u) : SameStage s u where
  toSameFsm := h.toSameFsm.trans g.toSameFsm
  conf := g.conf.trans h.conf
  inv := g.inv.trans h.inv

theorem SameStage.stageInv (h : SameStage s t) (hs : StageInv s) : StageInv t := by
  refine stageInv_iff.mpr fun inv hi r hr => ?_
  rw [cfgOf, h.conf, h.fsm]
  exact stageInv_iff.mp hs inv (h.inv ▸ hi) r hr

theorem SameStage.stageStep (h : SameStage s t) (hs : StageInv s) : StageStep s t :=
  ⟨h.stageInv hs, h.toSameFsm.ordered⟩

/-- Every move of the sequencer. -/
theorem sequencerMove_stageStep (h : Inv s) (hs : StageInv s)
    (ht : sequencerMove exec next s = .next t) : StageStep s t := by
  cases hl : s.lock with
  | some ag =>
    rw [sequencerMove_held hl] at ht
    exact resume_stageStep h hs ht
  | none =>
    rw [sequencerMove_free hl, grant] at ht
    split at ht
    · cases ht; exact ⟨hs, (SameFsm.refl s).ordered⟩
    next who rest _ =>
      have hdrawn : SameStage s { s with grants := rest } := by repeat' constructor
      exact (grantTo_stageStep (h.of_same (by repeat' constructor)) (hdrawn.stageInv hs) hl
        ht).of_same hdrawn.toSameFsm

theorem cmdWrite_sameStage (w : Word) : SameStage s (cmdWrite w s) := by
  unfold cmdWrite
  split
  · repeat' constructor
  · split
    · repeat' constructor
    next c _ =>
      unfold request accept
      split
      · repeat' constructor
      · split
        · repeat' constructor
        · dsimp only
          split <;> repeat' constructor

theorem hostWrite_sameStage (off : BitVec 4) (v : Word) : SameStage s (hostWrite off v s) := by
  have hrecord : SameStage s (record (.hostWr off v) s) := by repeat' constructor
  unfold hostWrite hostEffect
  split
  · exact hrecord.trans (cmdWrite_sameStage v)
  · split
    · repeat' constructor
    · split <;> repeat' constructor

theorem hostProgramStep_sameStage : SameStage s (hostProgramStep s) := by
  have hprog (rest : List HostPrim) : SameStage s { s with hostProg := rest } := by
    repeat' constructor
  unfold hostProgramStep
  split
  · repeat' constructor
  · exact (hprog _).trans (hostWrite_sameStage _ _)
  · repeat' constructor
  · split <;> repeat' constructor

theorem timerStep_sameStage : SameStage s (timerStep s) := by
  unfold timerStep
  split <;> repeat' constructor

theorem irqSample_sameStage (l : IrqLane) (level : Bool) : SameStage s (irqSample l level s) := by
  have hline (x : IrqLine) : SameStage s (irqSet l x s) := by cases l <;> repeat' constructor
  unfold irqSample
  split
  · dsimp only
    split <;> exact hline _
  · repeat' constructor

/-- The move of each agent but a reset (R30). -/
theorem takeMove_stageStep {m : Move} (h : Inv s) (hs : StageInv s)
    (hm : ∀ l2 l3, m ≠ .reset l2 l3) (ht : takeMove exec m s = .next t) : StageStep s t := by
  cases m with
  | sequencer next => exact sequencerMove_stageStep h hs ht
  | hostWrite off v => cases ht; exact (hostWrite_sameStage off v).stageStep hs
  | hostRead off =>
    cases ht
    have hread : SameStage s (hostRead off s) := by repeat' constructor
    exact hread.stageStep hs
  | hostProgram => cases ht; exact hostProgramStep_sameStage.stageStep hs
  | timer => cases ht; exact timerStep_sameStage.stageStep hs
  | irqSample l level => cases ht; exact (irqSample_sameStage l level).stageStep hs
  | elapse us =>
    cases ht
    have helapse : SameStage s { s with now := s.now + us } := by repeat' constructor
    exact helapse.stageStep hs
  | reset l2 l3 => exact absurd rfl (hm l2 l3)

end

/-- Settles O13: a primitive of a recovery stays in the stage of its index or enters the next one,
and what ends a recovery is its stage's own outcome, Success after the last stage, or a failed
transaction; no other step touches the orchestrator. -/
theorem stagesInOrder : Obligations.StagesInOrder := by
  intro s t h hs ht
  have hturn : SameStage s (takeTurn s) := by repeat' constructor
  have hstep (hm : ∀ l2 l3, nextMove s ≠ .reset l2 l3) : StageStep s t :=
    (takeMove_stageStep h.takeTurn (hturn.stageInv hs) hm ht).of_same hturn.toSameFsm
  by_cases hm : ∃ l2 l3, nextMove s = .reset l2 l3
  · obtain ⟨l2, l3, hm⟩ := hm
    unfold step at ht
    rw [hm] at ht
    cases ht
    exact ⟨stageInv_iff.mpr (fun _ hi => nomatch hi), fun hne => absurd hm (hne l2 l3)⟩
  · push Not at hm
    obtain ⟨hinv, hmoves, hfailure⟩ := hstep hm
    exact ⟨hinv, fun _ => ⟨hmoves, hfailure⟩⟩

end Sys2Proof.Machine
end

section
/-! The statement of a recovery inside a tick (spec/44_orchestrator R262, spec/45_monitor_probe
R295, R297): its first primitive and the tick's final step. -/

namespace Sys2Proof.Machine

open Reference

/-! ## The first primitive of a recovery (R262) -/

section

variable {c : Cfg} {L : LaneId} {ag : Agent} {s u : State} {inv : Invocation} {v : Word}

/-- The first primitive of a recovery is a transaction: the read of a lane's reset register, or the
reset write of all lanes (R263, R264). -/
theorem recoverCode_start (c : Cfg) (L : LaneId) (ag : Agent) :
    ∃ op : MicroOp, (recoverCode c L ag)[0]? = some op ∧ op.pre = .recoverStart L ag ∧
      ((∃ a, op.act = .read a .keep) ∨ ∃ a w, op.act = .write a w) := by
  cases L with
  | lane l => simp [recoverCode, raCode, assertSeq, targets, withPre, opOf]
  | allLanes => simp [recoverCode, raCode, withPre]

theorem one_lt_recoverCode_length : 1 < (recoverCode c L ag).length := by
  have hlock := two_le_lockCode_length (c := c) (L := L)
  have hlen := recoverCode_length (c := c) (L := L) (ag := ag)
  omega

/-- `u` is `s` after the first transaction of a recovery has completed (R262). -/
structure Entered (L : LaneId) (ag : Agent) (s u : State) : Prop where
  trace : ∃ e, u.trace = e :: s.trace ∧ isTransaction e = true ∧ isFailure e = false
  lock : u.lock = s.lock
  fsm : SameFsm (applyPre (.recoverStart L ag) s) u

theorem entered_record {e : Event} {post : Post} (ht : isTransaction e = true)
    (hf : isFailure e = false) :
    Entered L ag s (applyPost post (record e (drawReply (applyPre (.recoverStart L ag) s)))) := by
  have hsame : SameFsm (applyPre (.recoverStart L ag) s)
      (record e (drawReply (applyPre (.recoverStart L ag) s))) := by constructor <;> simp
  refine ⟨⟨e, ?_, ht, hf⟩, ?_, hsame.trans (applyPost_sameFsm post _)⟩
  · cases post <;> rfl
  · rw [(kept_applyPost post _).lock]
    rfl

/-- The first primitive of a recovery, answered, leads to the second one. -/
theorem recovery_enters (hr : nextReply s = .ok v) : ∃ op inv' u,
    (recoverCode c L ag)[0]? = some op ∧ GoesTo op 0 inv s (.run 1) inv' u ∧
      inv'.proc = inv.proc ∧ Entered L ag s u := by
  obtain ⟨op, hop, hpre, ⟨a, hact⟩ | ⟨a, w, hact⟩⟩ := recoverCode_start c L ag
  · refine ⟨op, { inv with v := v }, _, hop, fun go fail => ?_, rfl,
      entered_record (e := .rd a v) (post := .nothing) rfl rfl⟩
    rw [perform_read hact, hr, hpre]
    rfl
  · refine ⟨op, inv, _, hop, fun go fail => ?_, rfl,
      entered_record (e := .wr a w) (post := op.post) rfl rfl⟩
    rw [perform_write (by rw [hact]; rfl), hr, hpre]

end

/-! ## The steps of a tick (R295) -/

/-- A step of the tick that holds the sequencer. -/
theorem step_of_tick {s : State} {inv : Invocation} {next : Lane} {phase : TickPhase}
    (hlock : s.lock = some .monitor) (hinv : s.inv = some inv)
    (hnext : nextMove s = .sequencer next) (hproc : inv.proc = .tick phase) :
    step s = .next (tickStep next phase inv (takeTurn s)) := by
  have hinv' : (takeTurn s).inv = some inv := hinv
  rw [step_of_sequencer hnext, sequencerMove_held (s := takeTurn s) hlock]
  simp only [resume, hinv', hproc]

/-- Settles O52: the tick's last step and the last recovery's end are the reference's by definition;
the first primitive of a recovery carries its start and does not end it. -/
theorem tickChooses : Obligations.TickChooses := by
  intro inv next s hlock hinv hnext
  refine ⟨fun hproc => ?_, fun L o hproc hover => ?_, fun L left v hproc hpos hreply => ?_⟩
  · rw [step_of_tick hlock hinv hnext hproc]
    rfl
  · rw [step_of_tick hlock hinv hnext hproc, tickStep, recoveryStep_over (s := takeTurn s) hover,
      recoveryOver_nil]
  · have hr : nextReply (takeTurn s) = .ok v := (nextReply_eq_replyAt _).trans hreply
    obtain ⟨op, inv', u, hop, hgoes, hproc', ⟨⟨e, htrace, ht, hf⟩, hheld, hsame⟩⟩ :=
      recovery_enters (c := cfgOf s) (L := L) (ag := .monitor) (inv := inv) hr
    have hrun : endOf (recoverCode (cfgOf (takeTurn s)) L .monitor) (.run 1) = none :=
      if_pos one_lt_recoverCode_length
    refine ⟨goTo (.run 1) inv' u, { inv' with pos := .run 1 }, e, ?_, htrace, ht, hf,
      hheld.trans hlock, rfl, hproc'.trans hproc, rfl, hsame.fsm, hsame.target, hsame.agent,
      hsame.reason⟩
    rw [step_of_tick hlock hinv hnext hproc, tickStep, recoveryStep_op (s := takeTurn s) hpos hop,
      hgoes, recoveryGoes, hrun]

end Sys2Proof.Machine
end

section
/-! The statement of an AllLanes RECOVER with no poll limit (spec/44_orchestrator R264, R381): its
poll goes on from read to read for as long as calibration is not seen. -/

namespace Sys2Proof.Machine

open Reference

/-! ## The poll of the calibration register, step by step (R264) -/

/-- The state with `st.regcalCount` at `n` (R264). -/
def recounted (n : Nat) (s : State) : State := { s with regcalCount := n }

section

variable {code : List MicroOp} {c : Cfg} {s t : State} {inv : Invocation} {n k : Nat} {v w : Word}
  {f : Nat → Word}

/-- A read that does not see calibration, with no limit to the poll, leads to the poll's next
primitive. -/
theorem advances_regcal {a : Word} {onDone onRetry : Nat} (hpos : inv.pos = .run n)
    (hop : code[n]? = some (opOf (.read a (.regcal onDone onRetry))))
    (hlimit : (cfgOf s).regcalPollLimit = none) (hr : replyAt s 0 = .ok v)
    (hv : v.getLsbD (cfgOf s).bRegcal = false) :
    Advances code (inv, s) ({ inv with pos := .run (n + onRetry) },
      recounted (s.regcalCount + 1) (played [.rd a v] s)) := by
  refine .goes hpos hop fun go fail => ?_
  rw [perform_read rfl, (nextReply_eq_replyAt s).trans hr]
  have hnot : test v s.conf.cfg.bRegcal = false := hv
  have hlimit' (count : Nat) : limitReached s.conf.cfg count = false := by
    rw [limitReached, hlimit]
  simp only [opOf, applyPre, useValue, cfgOf, record_conf, drawReply_conf, hnot, hlimit',
    Bool.false_eq_true, if_false]
  rw [record_drawReply rfl]
  rfl

/-- One read that does not see calibration, and its delay, lead back to the read. -/
theorem walks_regcal (hs : Stands (regcalSeq c) code n) (hc : cfgOf s = c)
    (hpos : inv.pos = .run n) (hlimit : c.regcalPollLimit = none) (hr : replyAt s 0 = .ok v)
    (hv : v.getLsbD c.bRegcal = false) :
    ∃ inv', Walks code (inv, s) (inv', recounted (s.regcalCount + 1)
      (played (.rd c.aRegcal v :: waitEvents c .tRegcalPoll) s)) ∧ inv'.pos = .run n := by
  subst hc
  unfold regcalSeq at hs
  unfold waitEvents
  split at hs
  next h0 =>
    rw [if_pos h0]
    exact ⟨_, .single (advances_regcal hpos hs.head hlimit hr hv), rfl⟩
  next h0 =>
    rw [if_neg h0]
    refine ⟨_, (Relation.ReflTransGen.single (advances_regcal hpos hs.head hlimit hr hv)).trans
      (walks_wait rfl (hs.append (xs := [_])).2.head), ?_⟩
    rfl

/-- The poll stands after the reset write of all lanes (R264). -/
theorem stands_regcalSeq (c : Cfg) (ag : Agent) :
    Stands (regcalSeq c) (recoverCode c .allLanes ag) 1 := by
  simp only [recoverCode, raCode_allLanes, List.singleton_append, withPre, List.append_assoc]
  exact ⟨_, rfl⟩

/-- One more read that does not see calibration (R264). -/
theorem hangEvents_succ (c : Cfg) (r : Nat) (f : Nat → Word) : hangEvents c (r + 1) f =
    hangEvents c r f ++ .rd c.aRegcal (f (r + 1)) :: waitEvents c .tRegcalPoll := by
  simp only [hangEvents, List.range_succ, List.flatMap_append, List.flatMap_singleton,
    List.cons_append]

theorem transactions_hangEvents (c : Cfg) (r : Nat) (f : Nat → Word) :
    transactions (hangEvents c r f) = 1 + r := by
  induction r with
  | zero => rfl
  | succ r ih =>
    rw [hangEvents_succ, transactions_append, ih, transactions_cons, transactions_waitEvents]
    rfl

/-- The state of an AllLanes RECOVER of the host after `r` reads that do not see calibration. -/
def hung (r : Nat) (f : Nat → Word) (s : State) : State :=
  recounted r (played (hangEvents (cfgOf s) r f) (applyPre (.recoverStart .allLanes .host) s))

/-- The reset write enters ResetAsserted, and each read that does not see calibration leads back to
the read (R264, R381). -/
theorem walks_hung {r : Nat} (hpos : inv.pos = .run 0) (hlimit : (cfgOf s).regcalPollLimit = none)
    (hf : Answered s (1 + r) f)
    (hunseen : ∀ k, 1 ≤ k → k ≤ r → (f k).getLsbD (cfgOf s).bRegcal = false) :
    ∃ inv', Walks (recoverCode (cfgOf s) .allLanes .host) (inv, s) (inv', hung r f s) ∧
      inv'.pos = .run 1 := by
  induction r with
  | zero =>
    refine ⟨{ inv with pos := .run 1 }, .single (.goes hpos rfl fun go fail => ?_), rfl⟩
    rw [perform_write rfl, (nextReply_eq_replyAt s).trans (hf 0 Nat.one_pos)]
    show go (.run 1) inv (applyPost .regcalStart (record _ (drawReply _))) = _
    rw [record_drawReply rfl]
    rfl
  | succ r ih =>
    obtain ⟨inv', hw, hpos'⟩ := ih (fun k hk => hf k (by omega)) fun k h1 hk =>
      hunseen k h1 (by omega)
    have hreply : replyAt (hung r f s) 0 = .ok (f (r + 1)) := by
      refine (replyAt_played (s := applyPre (.recoverStart .allLanes .host) s) 0).trans ?_
      rw [transactions_hangEvents, Nat.add_zero, Nat.add_comm]
      exact hf (r + 1) (by omega)
    obtain ⟨inv'', hw', hpos''⟩ := walks_regcal (s := hung r f s) (stands_regcalSeq _ .host) rfl
      hpos' hlimit hreply (hunseen (r + 1) (by omega) le_rfl)
    refine ⟨inv'', ?_, hpos''⟩
    rw [hung, hangEvents_succ, played_append]
    exact hw.trans hw'

end

/-- Settles O43: the command walks from read to read, one step for each event. -/
theorem regcalHang : Obligations.RegcalHang := by
  intro r a d f s hs hlimit hf hunseen
  have hbegan : HostAt (cfgOf s) (.recover .allLanes) a d
      (startOf (.recover .allLanes) a d, record (.began .host .recover (some .allLanes)) s) :=
    ⟨rfl, rfl⟩
  obtain ⟨inv, hw, -⟩ := walks_hung (inv := startOf (.recover .allLanes) a d)
    (s := record (.began .host .recover (some .allLanes)) s) rfl hlimit hf hunseen
  obtain ⟨n, hlen, hn⟩ := execTimes_of_walks_events hbegan hw
  have htrace : (hung r f (record (.began .host .recover (some .allLanes)) s)).trace =
      (hangEvents (cfgOf s) r f).reverse ++ .began .host .recover (some .allLanes) :: s.trace := rfl
  obtain rfl : n = (hangEvents (cfgOf s) r f).length := by
    rw [htrace, List.length_append, List.length_reverse, record_trace] at hlen
    omega
  refine ⟨_, inv, (execTimes_ready_eq hs _).trans hn, htrace, rfl, rfl, (hbegan.walks hw).1, ?_⟩
  simp only [holding, hung, recounted, played, applyPre, record_busy, record_hostCmd,
    record_outcome, and_self]

end Sys2Proof.Machine
end

section
/-! The statement of a whole RECOVER (spec/44_orchestrator R261 to R267, R270): its four stages,
answered, one after another. -/

namespace Sys2Proof.Machine

open Reference

/-! ## ResetAsserted, answered (R263, R264) -/

section

variable {L : LaneId} {k r : Nat} {f : Nat → Word} {s : State} {v : Word}

theorem recounted_played {es : List Event} {n m : Nat} :
    recounted n (played es (recounted m s)) = recounted n (played es s) := rfl

/-- One read of the poll, and what follows it. -/
theorem regcalPoll_succ {c : Cfg} {fuel : Nat} (hr : replyAt s 0 = .ok v) :
    regcalPoll c (fuel + 1) s =
      (if test v c.bRegcal then value ()
        else fun s =>
          if c.regcalPollLimit = some s.regcalCount then giveUp .regulatorCalibrationTimeout s
          else andThen (wait .tRegcalPoll) (fun _ => regcalPoll c fuel) s)
        (recounted (s.regcalCount + 1) (played [.rd c.aRegcal v] s)) := by
  have hread : read c.aRegcal s = some (.ok v, played [.rd c.aRegcal v] s) := yields_read hr
  simp only [regcalPoll, Reference.andThen, hread, assign]
  rfl

/-- A read that does not see calibration, and is not the limit's, is followed by its delay and the
next one. -/
theorem regcalPoll_again {fuel : Nat} (hr : replyAt s 0 = .ok v)
    (hclear : v.getLsbD (cfgOf s).bRegcal = false)
    (hlimit : (cfgOf s).regcalPollLimit ≠ some (s.regcalCount + 1)) :
    regcalPoll (cfgOf s) (fuel + 1) s = regcalPoll (cfgOf s) fuel
      (played ([.rd (cfgOf s).aRegcal v] ++ waitEvents (cfgOf s) .tRegcalPoll)
        (recounted (s.regcalCount + 1) s)) := by
  have hwait (u : State) :
      wait .tRegcalPoll u = some (.ok (), played (waitEvents (cfgOf u) .tRegcalPoll) u) :=
    yields_wait .tRegcalPoll
  rw [regcalPoll_succ hr, if_neg (show ¬ test v _ = true by rw [test, hclear]; decide),
    played_append]
  refine (if_neg hlimit).trans ?_
  simp only [Reference.andThen, hwait]
  rfl

theorem regcalEvents_succ (c : Cfg) (k : Nat) (f : Nat → Word) : regcalEvents c (k + 2) f =
    ([.rd c.aRegcal (f 0)] ++ waitEvents c .tRegcalPoll) ++ regcalEvents c (k + 1) (shift 1 f) :=
  rfl

theorem transactions_regcalEvents (c : Cfg) :
    transactions (regcalEvents c r f) = r := by
  induction r using Nat.twoStepInduction generalizing f with
  | zero => rfl
  | one => rfl
  | more r _ ih =>
    rw [regcalEvents_succ, transactions_append, transactions_append, transactions_waitEvents, ih,
      Nat.add_comm]
    rfl

/-- The poll that sees calibration at read number `k`, from 0, before any limit (R264). -/
theorem regcalPoll_seen {fuel : Nat} (hseen : (f k).getLsbD (cfgOf s).bRegcal = true)
    (hunseen : ∀ j, j < k → (f j).getLsbD (cfgOf s).bRegcal = false ∧
      (cfgOf s).regcalPollLimit ≠ some (s.regcalCount + (j + 1)))
    (hfuel : k < fuel) (h : Answered s (k + 1) f) :
    regcalPoll (cfgOf s) fuel s =
      some (.ok (), recounted (s.regcalCount + (k + 1))
        (played (regcalEvents (cfgOf s) (k + 1) f) s)) := by
  induction k generalizing s f fuel with
  | zero =>
    obtain ⟨fuel, rfl⟩ := Nat.exists_eq_add_one.mpr hfuel
    rw [regcalPoll_succ (h 0 Nat.one_pos), if_pos (show test (f 0) _ = true from hseen)]
    rfl
  | succ k ih =>
    obtain ⟨fuel, rfl⟩ := Nat.exists_eq_add_one.mpr (Nat.zero_lt_of_lt hfuel)
    obtain ⟨hclear, hlimit⟩ := hunseen 0 k.succ_pos
    rw [regcalPoll_again (h 0 (by omega)) hclear hlimit]
    have hcount : transactions ([.rd (cfgOf s).aRegcal (f 0)] ++ waitEvents (cfgOf s) .tRegcalPoll)
        = 1 := by
      rw [transactions_append, transactions_waitEvents]
      rfl
    have hlater := answered_played (s := recounted (s.regcalCount + 1) s) (m := k + 1) h
      (by rw [hcount]; omega)
    rw [hcount] at hlater
    have hseen' : (shift 1 f k).getLsbD (cfgOf s).bRegcal = true := by
      rw [shift, Nat.add_comm]
      exact hseen
    refine (ih (s := played _ (recounted (s.regcalCount + 1) s)) hseen' (fun j hj => ?_) (by omega)
      hlater).trans ?_
    · obtain ⟨hclear', hlimit'⟩ := hunseen (j + 1) (by omega)
      rw [shift, Nat.add_comm]
      refine ⟨hclear', ?_⟩
      show (cfgOf s).regcalPollLimit ≠ some (s.regcalCount + 1 + (j + 1))
      rwa [Nat.add_assoc, Nat.add_comm 1]
    · rw [← played_append, regcalEvents_succ,
        show s.regcalCount + (k + 1 + 1) = s.regcalCount + 1 + (k + 1) by omega]
      rfl

/-- The reads of the poll are those of an AllLanes RECOVER that sees calibration at read `r`
(R264). -/
def Calibrated (c : Cfg) (L : LaneId) (r : Nat) (f : Nat → Word) : Prop :=
  L = .allLanes → 1 ≤ r ∧ (f r).getLsbD c.bRegcal = true ∧
    ∀ j, 1 ≤ j → j < r → (f j).getLsbD c.bRegcal = false ∧ c.regcalPollLimit ≠ some j

theorem transactions_raEvents (c : Cfg) : transactions (raEvents c L r f) = raCount L r := by
  cases L with
  | lane l =>
    rw [raEvents, transactions_append, transactions_rmwEvents, transactions_waitEvents]
    rfl
  | allLanes =>
    rw [raEvents, transactions_cons, transactions_regcalEvents]
    rfl

/-- `RA(L)`. -/
theorem resetAsserted_answered {fuel : Nat} (hcal : Calibrated (cfgOf s) L r f) (hfuel : r ≤ fuel)
    (h : Answered s (raCount L r) f) :
    resetAsserted fuel (cfgOf s) L s = some (.ok (),
      recounted (if L = .allLanes then r else s.regcalCount)
        (played (raEvents (cfgOf s) L r f) s)) := by
  cases L with
  | lane l =>
    exact yields_seq (n := 2) (m := 0) (transactions_rmwEvents _) (fun h => yields_assertBits h)
      (fun _ => yields_wait .tRxRst) h
  | allLanes =>
    obtain ⟨hpos, hseen, hunseen⟩ := hcal rfl
    obtain ⟨k, rfl⟩ := Nat.exists_eq_add_one.mpr hpos
    have hwrite : write (cfgOf s).aMrst 0x9C00#16 s =
        some (.ok (), played [.wr (cfgOf s).aMrst 0x9C00#16] s) :=
      yields_write (h 0 (by simp only [raCount]; omega))
    have hlater : Answered (recounted 0 (played [.wr (cfgOf s).aMrst 0x9C00#16] s)) (k + 1)
        (shift 1 f) := answered_played (m := k + 1) h (Nat.le_refl _)
    have hpoll := regcalPoll_seen (fuel := fuel)
      (s := recounted 0 (played [.wr (cfgOf s).aMrst 0x9C00#16] s)) (k := k) (f := shift 1 f)
      (by rw [shift, Nat.add_comm]; exact hseen)
      (fun j hj => by
        rw [shift, Nat.add_comm]
        show _ ∧ _ ≠ some (0 + (j + 1))
        rw [Nat.zero_add]
        exact hunseen (j + 1) (by omega) (by omega)) (by omega) hlater
    have hcount : (recounted 0 (played [.wr (cfgOf s).aMrst 0x9C00#16] s)).regcalCount + (k + 1) =
        k + 1 := Nat.zero_add _
    simp only [resetAsserted, Reference.andThen, hwrite, assign]
    refine hpoll.trans ?_
    rw [hcount, recounted_played, ← played_append]
    rfl

end

/-! ## The four stages, answered (R262) -/

/-- What a RECOVER writes beside the trace: the orchestrator's registers, the counters of its polls
and the trim cache. -/
structure Marks where
  fsm : Fsm
  reason : Option RecoveryOutcome
  target : Option LaneId
  agent : Agent
  azCount : Nat
  regcalCount : Nat
  vco : VcoTable

/-- The state with these fields at `m`. -/
def marked (m : Marks) (s : State) : State :=
  { s with
    fsm := m.fsm, reason := m.reason, target := m.target, agent := m.agent
    azCount := m.azCount, regcalCount := m.regcalCount, vco := m.vco }

/-- These fields of a state. -/
def marksOf (s : State) : Marks :=
  { fsm := s.fsm, reason := s.reason, target := s.target, agent := s.agent
    azCount := s.azCount, regcalCount := s.regcalCount, vco := s.vco }

namespace Marks

variable (m : Marks)

/-- The next stage of a RECOVER. -/
def enter (x : Fsm) : Marks := { m with fsm := x }

/-- The start of RECOVER(L, ag) (R262). -/
def start (L : LaneId) (ag : Agent) : Marks :=
  { m with fsm := .resetAsserted, reason := none, target := some L, agent := ag }

/-- `RA(L)` with calibration seen at read `r` (R264). -/
def calibrated (L : LaneId) (r : Nat) : Marks :=
  { m with regcalCount := if L = .allLanes then r else m.regcalCount }

/-- `AZ(L)` with attempt `k` the first that is done (R202). -/
def zeroed (k : Nat) : Marks := { m with azCount := k }

/-- `LOCK(L)` with the lanes' codes in the words of `f` (R234). -/
def trimmed (c : Cfg) (L : LaneId) (f : Nat → Word) : Marks :=
  { m with vco := Reference.trimmed c (lanes L) f m.vco }

end Marks

/-- From `s` the piece returns after completed primitives with the events `es`, and takes the fields
from `m` to `m'`. -/
def Does (p : Piece Unit) (s : State) (m : Marks) (es : List Event) (m' : Marks) : Prop :=
  p (marked m s) = some (.ok (), marked m' (played es s))

section

variable {p : Piece Unit} {g : Unit → Piece Unit} {L : LaneId} {ag : Agent} {k r fuel n l : Nat}
  {f : Nat → Word} {s : State} {m m' m'' : Marks} {es es' : List Event} {x : Fsm}

/-- One answered piece after another. -/
theorem does_seq (hn : transactions es = n) (hp : Answered s n f → Does p s m es m')
    (hg : Answered (played es s) l (shift n f) → Does (g ()) (played es s) m' es' m'')
    (h : Answered s (n + l) f) : Does (andThen p g) s m (es ++ es') m'' := by
  have hfirst := hp fun j hj => h j (by omega)
  have hsecond := hg (hn ▸ answered_played h (by rw [hn]))
  unfold Does at *
  simp only [Reference.andThen, hfirst, hsecond, played_append]

/-- The assignment of the next stage (R262). -/
theorem does_stage (h : Does p s (m.enter x) es m') :
    Does (andThen (stage x) fun _ => p) s m es m' := h

/-- The stages of a RECOVER after its start (R262). -/
theorem does_recover_of_stages {c : Cfg} (h : Does (andThen (resetAsserted fuel c L) fun _ =>
      andThen (stage .calibratingAZ) fun _ => andThen (autoZero fuel c L) fun _ =>
      andThen (stage .acquiringFrequency) fun _ => andThen (acq c L) fun _ =>
      andThen (stage .lockTesting) fun _ => Reference.lock c L) s (m.start L ag) es m') :
    Does (recover fuel c L ag) s m es m' := h

theorem does_resetAsserted (hcal : Calibrated (cfgOf s) L r f) (hfuel : r ≤ fuel)
    (h : Answered s (raCount L r) f) :
    Does (resetAsserted fuel (cfgOf s) L) s m (raEvents (cfgOf s) L r f)
      (m.calibrated L r) :=
  resetAsserted_answered (s := marked m s) hcal hfuel h

theorem does_autoZero (hdone : attemptDone L (shift (armCount (cfgOf s) L) f) k)
    (hfirst : ∀ j, j < k → ¬ attemptDone L (shift (armCount (cfgOf s) L) f) j) (hmax : k < 64)
    (hfuel : k < fuel) (h : Answered s (transactions (azEvents (cfgOf s) m.vco L (k + 1) f)) f) :
    Does (autoZero fuel (cfgOf s) L) s m (azEvents (cfgOf s) m.vco L (k + 1) f)
      (m.zeroed (k + 1)) :=
  autoZero_done (s := marked m s) hdone hfirst hmax hfuel h

theorem does_acq (h : Answered s (acqCount L) f) :
    Does (acq (cfgOf s) L) s m (acqEvents (cfgOf s) L f) m :=
  yields_acq (s := marked m s) h

theorem does_lock (hv : (f 0).getLsbD (lockBit (cfgOf s) L).2 = true)
    (h : Answered s (lockCount L) f) :
    Does (Reference.lock (cfgOf s) L) s m (lockEvents (cfgOf s) L f)
      (m.trimmed (cfgOf s) L (shift 1 f)) :=
  trimsTo_lock (s := marked m s) hv h

/-- The stages of a RECOVER whose calibration is seen at read `r`, whose attempt number `k`, from 0,
is the first that is done, and whose lock bit is set (R262 to R267). -/
theorem does_recover {f1 f2 f3 : Nat → Word} {az : List Event}
    (hf1 : f1 = shift (raCount L r) f) (haz : az = azEvents (cfgOf s) m.vco L (k + 1) f1)
    (hf2 : f2 = shift (transactions az) f1) (hf3 : f3 = shift (acqCount L) f2)
    (hcal : Calibrated (cfgOf s) L r f) (hr : r ≤ fuel) (hk : k < fuel) (hmax : k < 64)
    (hdone : attemptDone L (shift (armCount (cfgOf s) L) f1) k)
    (hfirst : ∀ j, j < k → ¬ attemptDone L (shift (armCount (cfgOf s) L) f1) j)
    (hlock : (f3 0).getLsbD (lockBit (cfgOf s) L).2 = true)
    (h : Answered s (raCount L r + (transactions az + (acqCount L + lockCount L))) f) :
    Does (recover fuel (cfgOf s) L ag) s m
      (raEvents (cfgOf s) L r f ++ (az ++ (acqEvents (cfgOf s) L f2 ++ lockEvents (cfgOf s) L f3)))
      (((((((m.start L ag).calibrated L r).enter .calibratingAZ).zeroed (k + 1)).enter
        .acquiringFrequency).enter .lockTesting).trimmed (cfgOf s) L (shift 1 f3)) := by
  subst hf1 haz hf2 hf3
  refine does_recover_of_stages ?_
  refine does_seq (transactions_raEvents _) (does_resetAsserted hcal hr) (fun h => does_stage ?_) h
  refine does_seq rfl (does_autoZero (s := played _ s)
      (m := ((m.start L ag).calibrated L r).enter .calibratingAZ) hdone hfirst hmax hk)
    (fun h => does_stage ?_) h
  exact does_seq transactions_acqEvents (does_acq (s := played _ (played _ s)))
    (fun h => does_stage (does_lock (s := played _ (played _ (played _ s))) hlock h)) h

/-- The end of a RECOVER at Locked (R262, R338). -/
theorem finish_marked : finish (.recover L) .success (lastUpdates (.recover L) .success
    (marked m (played es (record (.began .host .recover (some L)) s)))) =
    marked (m.enter .locked) (completed (.recover L) .success es s) := by
  simp only [finish, lastUpdates, if_true, marked, played, record, completed, Marks.enter, kindOf,
    laneOperand, cfgOf]

end

/-- Settles O40: the four stages, answered, return, and each of their events is one step. -/
theorem recoverResult : Obligations.RecoverResult := by
  intro L r k a d f s c f1 az f2 f3 es hs hcal hk hmax hdone hfirst hlock hf
  obtain ⟨k, rfl⟩ := Nat.exists_eq_add_one.mpr hk
  have hcount : transactions es =
      raCount L r + (transactions az + (acqCount L + lockCount L)) := by
    simp only [es, transactions_append, transactions_raEvents, transactions_acqEvents,
      transactions_lockEvents, Nat.add_assoc]
  have hdoes := does_recover (ag := .host) (fuel := r + 64) (m := marksOf s) (az := az)
    (s := record (.began .host .recover (some L)) s) rfl rfl rfl rfl hcal (by omega) (by omega)
    (by omega) hdone (fun j hj => hfirst j (by omega)) hlock (hcount ▸ hf)
  rw [← List.append_assoc, ← List.append_assoc] at hdoes
  refine (execTimes_of_body hs hdoes (played_began_length (.recover L))).trans ?_
  rw [finish_marked]
  rfl

end Sys2Proof.Machine
end

section
/-! The statements of device identification, the Lock Monitor and the interrupt retry as results of
steps (spec/45_monitor_probe R290 to R301): what PROBE and DETACH leave, how a tick samples and goes
on after a failed transaction, and how an interrupt attempt begins and ends. -/

namespace Sys2Proof.Machine

open Reference

/-! ## Device identification and detach (R290 to R293) -/

section

variable {s : State} {hi lo : Word}

/-- The state after PROBE has read the two words (R290). -/
def probed (hi lo : Word) (s : State) : State :=
  { played [.rd 0x0002#16 hi, .rd 0x0003#16 lo] s with resultHi := hi, result := lo }

/-- The two words are the expected identifier exactly when they are its halves (R291). -/
theorem concat_eq_productId_iff :
    concat hi lo = Config.productId ↔ hi = 0x0210#16 ∧ lo = 0x7440#16 := by
  refine ⟨concat_eq_productId, ?_⟩
  rintro ⟨rfl, rfl⟩
  rfl

/-- RESULT_HI is written between the two reads (R290). -/
theorem probed_eq : probed hi lo s =
    { played [.rd 0x0003#16 lo] { played [.rd 0x0002#16 hi] s with resultHi := hi } with
      result := lo } := by
  have happend := played_append (es := [.rd 0x0002#16 hi]) (es' := [.rd 0x0003#16 lo]) (s := s)
  simp only [List.cons_append, List.nil_append] at happend
  rw [probed, happend]
  rfl

/-- PROBE's reads, answered, decide by the identifier (R290, R291). -/
theorem probe_answered (h0 : replyAt s 0 = .ok hi) (h1 : replyAt s 1 = .ok lo) :
    probe s = some (if concat hi lo = Config.productId then .ok ()
      else .error .deviceIdentityMismatch, probed hi lo s) := by
  have hread0 : read 0x0002#16 s = some (.ok hi, _) := yields_read h0
  have hread1 : read 0x0003#16 { played [.rd 0x0002#16 hi] s with resultHi := hi } =
      some (.ok lo, _) := yields_read ((replyAt_played (es := [.rd 0x0002#16 hi]) 0).trans h1)
  simp only [probe, andThen, assign, hread0, hread1, probed_eq]
  by_cases hid : concat hi lo = Config.productId
  · rw [if_pos hid, if_pos (by exact hid)]
    rfl
  · rw [if_neg hid, if_neg (by exact hid)]
    rfl

theorem probed_length (i : Instr) :
    (probed hi lo (record (.began .host (kindOf i) (laneOperand i)) s)).trace.length =
      s.trace.length + 1 + 2 := rfl

/-- The end of a PROBE that succeeds (R292, R338). -/
theorem finish_attach_probed : finish .probe .success (lastUpdates .probe .success
    (probed hi lo (record (.began .host .probe none) s))) =
    { completed .probe .success [.rd 0x0002#16 hi, .rd 0x0003#16 lo] s with
      resultHi := hi, result := lo, bound := true, monArmed := true, monDue := false
      monRef := s.now, monSample := 0x0000#16
      irq2 := if (cfgOf s).hasIrqRetry then
          { s.irq2 with pending := false, active := false, attempts := 0 } else s.irq2
      irq3 := if (cfgOf s).hasIrqRetry then
          { s.irq3 with pending := false, active := false, attempts := 0 } else s.irq3 } := by
  simp only [lastUpdates, if_true, attach]
  cases hirq : (cfgOf s).hasIrqRetry
  · rw [if_neg (by exact Bool.eq_false_iff.mp hirq)]
    rfl
  · rw [if_pos (by exact hirq)]
    rfl

end

/-- Settles O31: the two reads, answered, return exactly on the expected identifier, and `attach` is
the last update of a PROBE that succeeds. -/
theorem probeResult : Obligations.ProbeResult := by
  intro a d hi lo s hs h0 h1
  have hprobe := probe_answered (s := record (.began .host .probe none) s) h0 h1
  rw [← concat_eq_productId_iff]
  refine ⟨fun hid => ?_, fun hid => ?_⟩
  · rw [if_pos hid] at hprobe
    rw [execTimes_of_body (fuel := 0) hs hprobe (probed_length .probe)]
    exact congrArg Host.Outcome.next (finish_attach_probed)
  · rw [if_neg hid] at hprobe
    rw [execTimes_of_body_error (fuel := 0) hs (by decide) hprobe (probed_length .probe)]
    rfl

/-- Settles O32: DETACH has no primitive, so the step that begins it ends it. -/
theorem detachResult : Obligations.DetachResult := by
  intro a d s hs
  rw [exec_ready hs, hostAdvance_done rfl rfl, beginHost_ready hs]
  rfl

/-! ## The timer and the interrupt inputs (R294, R299) -/

section

variable {s : State} {l : IrqLane} {level : Bool}

theorem step_timer (h : nextMove s = .timer) : step s = .next (timerStep (takeTurn s)) := by
  rw [step, h]
  rfl

theorem timerEnabled_iff : timerEnabled s = true ↔
    s.monArmed = true ∧ s.monDue = false ∧ s.lock ≠ some .monitor ∧
      s.monRef + s.monPeriod ≤ s.now := by
  simp [timerEnabled, and_assoc]

theorem step_irqSample (h : nextMove s = .irqSample l level) :
    step s = .next (irqSample l level (takeTurn s)) := by
  rw [step, h]
  rfl

@[simp] theorem irqGet_takeTurn : irqGet (takeTurn s) l = irqGet s l := by
  cases l <;> rfl

/-- A falling edge that the detector of lane `l` takes (R299). -/
def Falls (l : IrqLane) (level : Bool) (s : State) : Prop :=
  (irqGet s l).level = true ∧ level = false ∧ s.bound = true ∧ detachAccepted s = false

/-- Without the interrupt retry there is no detector (R301). -/
theorem irqSample_absent (h : (cfgOf s).hasIrqRetry = false) : irqSample l level s = s := by
  rw [irqSample, if_neg (by simp [h])]

theorem irqSample_falls (h : (cfgOf s).hasIrqRetry = true) (hf : Falls l level s) :
    irqSample l level s = irqSet l (edgeTaken { irqGet s l with level := false }) s := by
  obtain ⟨hlevel, rfl, hbound, hdetach⟩ := hf
  simp [irqSample, h, hlevel, hbound, hdetach]

theorem irqSample_ignores (h : (cfgOf s).hasIrqRetry = true) (hf : ¬ Falls l level s) :
    irqSample l level s = irqSet l { irqGet s l with level := level } s := by
  rw [irqSample, if_pos h]
  refine if_neg fun hedge => hf ?_
  simp only [Bool.and_eq_true, Bool.not_eq_true'] at hedge
  obtain ⟨⟨⟨hlevel, hwas⟩, hbound⟩, hdetach⟩ := hedge
  exact ⟨hwas, hlevel, hbound, hdetach⟩

end

/-- Settles O49: the timer's move is enabled exactly under R294's four conditions. -/
theorem timerMakesDue : Obligations.TimerMakesDue := by
  intro s hm
  rw [step_timer hm]
  refine ⟨fun h => ?_, fun h => ?_⟩
  · rw [timerStep, if_pos ((timerEnabled_iff (s := takeTurn s)).mpr h)]
  · rw [timerStep, if_neg (mt (timerEnabled_iff (s := takeTurn s)).mp h)]

/-- Settles O56: the three cases of a sample, an edge being taken by whether a burst is active. -/
theorem fallingEdge : Obligations.FallingEdge := by
  intro l level s hm x falls
  rw [step_irqSample hm]
  refine ⟨fun h => ?_, fun h hf => ?_, fun h hf hx => ?_, fun h hf hx => ?_⟩
  · rw [irqSample_absent (s := takeTurn s) h]
  · rw [irqSample_ignores (s := takeTurn s) h hf, irqGet_takeTurn]
  · rw [irqSample_falls (s := takeTurn s) h hf, irqGet_takeTurn]
    simp only [edgeTaken]
    rw [if_neg (by simpa using hx)]
  · rw [irqSample_falls (s := takeTurn s) h hf, irqGet_takeTurn]
    simp only [edgeTaken]
    rw [if_pos (by simpa using hx)]

end Sys2Proof.Machine
end

section
/-! The Lock Monitor's statements (spec/45_monitor_probe R295, R296, R298): how a tick samples and
selects its recoveries, and how it goes on after a failed transaction. -/

namespace Sys2Proof.Machine

open Reference

/-! ## The selection of recoveries (R296) -/

theorem pickRecovery_of_mem {left : List LaneId} {l : Lane} (h : .lane l ∈ left) :
    pickRecovery l left = .lane l := by
  cases left with
  | nil => rfl
  | cons L left => exact if_pos h

theorem pickRecovery_mem {left : List LaneId} (next : Lane) (h : left ≠ []) :
    pickRecovery next left ∈ left := by
  cases left with
  | nil => exact absurd rfl h
  | cons L left =>
    by_cases hnext : .lane next ∈ L :: left
    · rwa [pickRecovery_of_mem hnext]
    · rw [pickRecovery, if_neg hnext]
      exact List.mem_cons_self

/-- Settles O51: the sixteen samples, evaluated, and the two cases of a draw. -/
theorem recoverySelection : Obligations.RecoverySelection :=
  ⟨by decide, fun _ _ h => pickRecovery_of_mem h, fun _ next h => pickRecovery_mem next h⟩

/-! ## The steps of a tick (R295) -/

section

variable {s : State} {inv : Invocation} {next : Lane} {taken : List Bool} {v : Word}

/-- The invocation of a tick as it begins (R295). -/
def tickStart : Invocation :=
  { proc := .tick (.sample []), pos := .run 0, v := 0#16, allDone := false }

/-- A grant to a due tick begins it with its first sampling read (R295; log 8). -/
theorem step_of_monitor_granted {rest : List Agent} (hfree : s.lock = none)
    (hnext : nextMove s = .sequencer next)
    (hgrant : grantChoice (takeTurn s) = some (.monitor, rest)) :
    step s = .next (tickStep next (.sample []) tickStart
      (beginTick { takeTurn s with grants := rest })) := by
  rw [step_of_sequencer hnext, sequencerMove_free (s := takeTurn s) hfree, grant, hgrant]
  rfl

/-- A sampling read that completes (R295). -/
theorem sampleStep_ok (h : nextReply s = .ok v) :
    sampleStep next taken inv s = sampleTaken next taken (test v (cfgOf s).bLock) inv
      { s with
        trace := .rd (laneAddr (cfgOf s).baseTxpllStat (sampleLane taken.length)) v :: s.trace
        phy := s.phy.tail, draws := s.draws + 1 } := by
  rw [sampleStep, memRead_ok h]
  rfl

/-- The end of a tick whose sampling read failed (R295, R297). -/
theorem sampleFailed_eq : sampleFailed s =
    { s with
      trace := .ended .monitor .tick none .transportError
        :: .logged .monitor none .transportError :: s.trace
      transportFault := true, monRef := s.now, lock := none, inv := none } := rfl

/-- A sampling read that fails ends the tick, logged (R295, R297). -/
theorem sampleStep_fail (h : nextReply s = .fail) : sampleStep next taken inv s =
    { s with
      trace := .ended .monitor .tick none .transportError
        :: .logged .monitor none .transportError
        :: .rdFail (laneAddr (cfgOf s).baseTxpllStat (sampleLane taken.length)) :: s.trace
      transportFault := true, monRef := s.now, lock := none, inv := none
      phy := s.phy.tail, draws := s.draws + 1 } := by
  rw [sampleStep, memRead_fail h]
  dsimp only
  rw [sampleFailed_eq]
  rfl

end

/-- Settles O53: the failed read, whichever it is, ends the tick in its own step. -/
theorem samplingFailure : Obligations.SamplingFailure := by
  refine ⟨fun next rest s hfree hnext hgrant hfail => ?_,
    fun taken inv next s hlock hinv hproc hnext hfail =>
      ⟨.rdFail (laneAddr (cfgOf s).baseTxpllStat (sampleLane taken.length)), rfl, ?_⟩⟩
  · have hr : nextReply (beginTick { takeTurn s with grants := rest }) = .fail :=
      (nextReply_eq_replyAt _).trans hfail
    rw [step_of_monitor_granted hfree hnext hgrant, tickStep, sampleStep_fail hr]
    rfl
  · have hr : nextReply (takeTurn s) = .fail := (nextReply_eq_replyAt _).trans hfail
    rw [step_of_tick hlock hinv hnext hproc, tickStep, sampleStep_fail hr]
    rfl

/-! ## A tick that samples (R295, R304) -/

section

variable {s t : State} {n k : Nat} {next next' : Lane} {ms : List Move} {f : Nat → Word}
  {more : List Agent}

theorem stepTimes_succ (h : step s = .next t) : stepTimes (n + 1) s = stepTimes n t := by
  rw [stepTimes, h]

/-- The lock bit that the `k`th answer shows (R295). -/
def lockRead (f : Nat → Word) (s : State) (k : Nat) : Bool := test (f k) (cfgOf s).bLock

/-- The events of the first `k` sampling reads (R295). -/
def sampleEvents (f : Nat → Word) (s : State) (k : Nat) : List Event :=
  readEvents (cfgOf s).baseTxpllStat ([Lane.l0, .l1, .l2, .l3].take k) f

/-- The first `k` lock bits (R295). -/
def lockBits (f : Nat → Word) (s : State) (k : Nat) : List Bool :=
  (List.range k).map (lockRead f s)

/-- The invocation of a tick that has sampled `k` bits. -/
def sampleInv (f : Nat → Word) (s : State) (k : Nat) : Invocation :=
  { tickStart with proc := .tick (.sample (lockBits f s k)) }

/-- A tick that was granted in `s` and has sampled `k` bits, with the moves `ms` ahead at the `n`th
move. -/
def sampling (f : Nat → Word) (more : List Agent) (ms : List Move) (n : Nat) (s : State) (k : Nat) :
    State :=
  { s with
    trace := (sampleEvents f s k).reverse ++ .began .monitor .tick none :: s.trace
    monDue := false, lock := some .monitor, inv := some (sampleInv f s k)
    phy := s.phy.drop k, draws := s.draws + k, agenda := ms, turn := n, grants := more }

/-- The recoveries that the four bits select (R296). -/
def selection (f : Nat → Word) (s : State) : List LaneId :=
  recoveriesOf (lockRead f s 0) (lockRead f s 1) (lockRead f s 2) (lockRead f s 3)

/-- The tick with its sample complete and shown, before it goes on (R295). -/
def sampled (f : Nat → Word) (more : List Agent) (ms : List Move) (n : Nat) (s : State) : State :=
  { sampling f more ms n s 4 with
    inv := some (sampleInv f s 3)
    monSample :=
      sampleWord (lockRead f s 0) (lockRead f s 1) (lockRead f s 2) (lockRead f s 3) }

theorem sampleEvents_succ (hk : k < 4) : sampleEvents f s (k + 1) =
    sampleEvents f s k ++ [.rd (laneAddr (cfgOf s).baseTxpllStat (sampleLane k)) (f k)] := by
  interval_cases k <;> rfl

@[simp] theorem length_lockBits : (lockBits f s k).length = k := by
  simp [lockBits]

theorem lockBits_succ : lockBits f s (k + 1) = lockBits f s k ++ [lockRead f s k] := by
  rw [lockBits, List.range_succ, List.map_append]
  rfl

/-- A bit before the fourth leaves the tick sampling (R295). -/
theorem sampleTaken_early {inv : Invocation} {taken : List Bool} {b : Bool}
    (h : taken.length < 3) :
    sampleTaken next taken b inv s = toPhase (.sample (taken ++ [b])) inv s := by
  unfold sampleTaken
  split
  next => exact absurd h (lt_irrefl 3)
  next => rfl

theorem nextReply_sampling : nextReply (sampling f more ms n s k) = replyAt s k := by
  simp [nextReply_eq_replyAt, replyAt, sampling]

/-- A sampling read hands its lock bit on. -/
theorem sampleStep_sampling (hk : k < 4) (hf : replyAt s k = .ok (f k)) :
    sampleStep next (lockBits f s k) (sampleInv f s k) (sampling f more ms n s k) =
      sampleTaken next (lockBits f s k) (lockRead f s k) (sampleInv f s k)
        { sampling f more ms n s (k + 1) with inv := some (sampleInv f s k) } := by
  rw [sampleStep_ok (nextReply_sampling.trans hf), length_lockBits]
  simp only [sampling, sampleEvents_succ hk, List.reverse_append, List.reverse_singleton,
    List.cons_append, List.tail_drop, Nat.add_assoc]
  rfl

/-- Before the fourth bit the tick samples on (R295). -/
theorem sampleStep_early (hk : k < 3) (hf : replyAt s k = .ok (f k)) :
    sampleStep next (lockBits f s k) (sampleInv f s k)
      (sampling f more ms n s k) = sampling f more ms n s (k + 1) := by
  rw [sampleStep_sampling (by omega) hf, sampleTaken_early (by simpa using hk), ← lockBits_succ]
  rfl

/-- The fourth bit completes the sample (R295, R296). -/
theorem sampleStep_last (hf : replyAt s 3 = .ok (f 3)) :
    sampleStep next (lockBits f s 3) (sampleInv f s 3)
      (sampling f more ms n s 3) =
      chooseNext next (selection f s) (sampleInv f s 3) (sampled f more ms n s) :=
  sampleStep_sampling (by decide) hf

/-- A step of a tick that samples. -/
theorem step_sampling : step (sampling f more (.sequencer next :: ms) n s k) =
    .next (sampleStep next (lockBits f s k) (sampleInv f s k)
      (sampling f more ms (n + 1) s k)) :=
  step_of_tick (s := sampling f more (.sequencer next :: ms) n s k) rfl rfl rfl rfl

/-- The grant of a due tick performs its first sampling read (R295; log 8). -/
theorem step_of_tick_due (hfree : s.lock = none) (hdue : s.monDue = true)
    (hgrants : s.grants = .monitor :: more) (hagenda : s.agenda = .sequencer next :: ms) :
    step s = .next (sampleStep next (lockBits f s 0) (sampleInv f s 0)
      (sampling f more ms (s.turn + 1) s 0)) := by
  have hnext : nextMove s = .sequencer next := by
    simp only [nextMove, movesAhead, hagenda, List.headD_cons]
  have hturn : takeTurn s = { s with agenda := ms, turn := s.turn + 1 } := by
    simp only [takeTurn, movesAhead, hagenda, List.tail_cons]
  rw [step_of_monitor_granted hfree hnext (grantChoice_head (s := takeTurn s) hgrants hdue),
    tickStep, hturn]
  rfl

/-- The four sampling reads are four steps. -/
theorem stepTimes_sampled {n0 n1 n2 n3 : Lane} (hfree : s.lock = none) (hdue : s.monDue = true)
    (hf : Answered s 4 f) (hgrants : s.grants = .monitor :: more)
    (hagenda : s.agenda = .sequencer n0 :: .sequencer n1 :: .sequencer n2 :: .sequencer n3 :: ms) :
    stepTimes (n + 4) s = stepTimes n
      (chooseNext n3 (selection f s) (sampleInv f s 3) (sampled f more ms (s.turn + 4) s)) := by
  have h0 := step_of_tick_due (f := f) hfree hdue hgrants hagenda
  rw [sampleStep_early (k := 0) (by decide) (hf 0 (by decide))] at h0
  have h1 := step_sampling (next := n1) (more := more) (ms := .sequencer n2 :: .sequencer n3 :: ms)
    (n := s.turn + 1) (s := s) (k := 1) (f := f)
  rw [sampleStep_early (by decide) (hf 1 (by decide))] at h1
  have h2 := step_sampling (next := n2) (more := more) (ms := .sequencer n3 :: ms)
    (n := s.turn + 2) (s := s) (k := 2) (f := f)
  rw [sampleStep_early (by decide) (hf 2 (by decide))] at h2
  have h3 := step_sampling (next := n3) (more := more) (ms := ms) (n := s.turn + 3) (s := s)
    (k := 3) (f := f)
  rw [sampleStep_last (hf 3 (by decide))] at h3
  rw [stepTimes_succ h0, stepTimes_succ h1, stepTimes_succ h2, stepTimes_succ h3]

/-- A tick that goes on draws the next recovery, or comes to its final step (R295, R296). -/
theorem chooseNext_eq {inv : Invocation} {left : List LaneId} : chooseNext next left inv s =
    { s with
      trace := (if left = [] then []
        else [.began .monitor .recover (some (pickRecovery next left))]) ++ s.trace
      inv := some { inv with
        pos := .run 0
        proc := .tick (if left = [] then .finish else
          .recover (pickRecovery next left) (left.erase (pickRecovery next left))) } } := by
  cases left <;> rfl

/-- The MON_SAMPLE word, bit by bit (R37, R295). -/
theorem sampleWord_eq (b0 b1 b2 b3 : Bool) : sampleWord b0 b1 b2 b3 =
    (if b0 then 0x0001#16 else 0) ||| (if b1 then 0x0002#16 else 0)
      ||| (if b2 then 0x0004#16 else 0) ||| (if b3 then 0x0008#16 else 0) ||| 0x0010#16
      ||| (if b0 || b1 || b2 || b3 then 0 else 0x0020#16) := by
  revert b0 b1 b2 b3
  decide

/-- With nothing to recover the tick's final step follows the sample (R295, R297). -/
theorem step_of_sampled (hsel : selection f s = []) :
    step (chooseNext next (selection f s) (sampleInv f s 3)
        (sampled f more (.sequencer next' :: ms) n s)) =
      .next { sampled f more ms (n + 1) s with
        trace := .ended .monitor .tick none .success :: (sampled f more ms n s).trace
        monRef := s.now, lock := none, inv := none } := by
  rw [hsel]
  rw [step_of_tick (s := chooseNext next [] (sampleInv f s 3)
    (sampled f more (.sequencer next' :: ms) n s)) rfl rfl rfl rfl]
  rfl

end

/-- Settles O50: the four reads are four steps, the last of which draws the first recovery or, with
all bits set, leaves the tick's final step. -/
theorem tickSamples : Obligations.TickSamples := by
  intro f n0 n1 n2 n3 n4 more rest s c b reads sel first hfree hdue hf hgrants hagenda
  refine ⟨?_, fun h0 h1 h2 h3 => ?_⟩
  · have hsteps : stepTimes 4 s = .next (chooseNext n3 (selection f s) (sampleInv f s 3)
        (sampled f more (.sequencer n4 :: rest) (s.turn + 4) s)) :=
      stepTimes_sampled (n := 0) hfree hdue hf hgrants hagenda
    rw [chooseNext_eq] at hsteps
    refine ⟨_, _, hsteps, rfl, rfl, rfl, rfl, fun hsel => ?_, fun hsel => ?_,
      sampleWord_eq (lockRead f s 0) (lockRead f s 1) (lockRead f s 2) (lockRead f s 3),
      rfl, rfl, rfl, rfl⟩
    · rw [if_pos (by exact hsel), if_pos (by exact hsel)]
      exact ⟨rfl, rfl⟩
    · rw [if_neg (by exact hsel), if_neg (by exact hsel)]
      exact ⟨rfl, rfl⟩
  · have hsteps := stepTimes_sampled (n := 1) hfree hdue hf hgrants hagenda
    have hbits : lockRead f s 0 = true ∧ lockRead f s 1 = true ∧ lockRead f s 2 = true ∧
        lockRead f s 3 = true := ⟨h0, h1, h2, h3⟩
    obtain ⟨hb0, hb1, hb2, hb3⟩ := hbits
    have hsel : selection f s = [] := by
      rw [selection, hb0, hb1, hb2, hb3]
      rfl
    rw [hsteps, stepTimes_succ (step_of_sampled hsel)]
    simp only [sampled, sampling, hb0, hb1, hb2, hb3]
    rfl

/-! ## A failed transaction in a recovery (R298, R333) -/

section

variable {op : MicroOp} {n : Nat} {inv : Invocation} {s : State} {L : LaneId} {ag : Agent}
  {c : Cfg}

/-- A transaction that fails, whatever its primitive (R73). -/
theorem failsIn_of_reply (hop : ∀ t back, op.act ≠ .wait t back) (h : nextReply s = .fail) :
    ∃ e, isFailure e = true ∧ FailsIn op n inv s (record e (drawReply (applyPre op.pre s))) := by
  cases hw : writtenWord op.act inv s with
  | some aw => exact ⟨.wrFail aw.1 aw.2, rfl, fun go fail => by rw [perform_write hw, h]⟩
  | none =>
    rcases read_or_wait_of_writtenWord hw with ⟨a, u, hact⟩ | ⟨t, back, hact⟩
    · exact ⟨.rdFail a, rfl, fun go fail => by rw [perform_read hact, h]⟩
    · exact absurd hact (hop t back)

/-- Only the first primitive of a recovery names its target (R262). -/
theorem recoverCode_target (hop : (recoverCode c L ag)[n]? = some op) :
    (applyPre op.pre s).target = if n = 0 then some L else s.target := by
  cases n with
  | zero =>
    rw [recoverCode_first hop]
    rfl
  | succ n =>
    rw [if_neg n.succ_ne_zero]
    obtain ⟨op', ops, hra⟩ := List.exists_cons_of_ne_nil (raCode_ne_nil c L)
    have hplain := plain_ra c L
    rw [hra] at hplain
    have hmem := List.mem_of_getElem? (i := n) (l := ops ++
      (withPre (.stage .calibratingAZ) (azCode c L) ++
        (withPre (.stage .acquiringFrequency) (acqCode c L) ++
          withPre (.stage .lockTesting) (lockCode c L)))) (a := op) (by
      simpa [recoverCode, hra, withPre] using hop)
    have hkeeps : op.pre = .nothing ∨ ∃ f, op.pre = .stage f := by
      simp only [List.mem_append] at hmem
      rcases hmem with h | h | h | h
      · exact .inl (hplain op (List.mem_cons_of_mem _ h))
      · exact (mem_withPre h).symm.imp (plain_az c L op) fun h => ⟨_, h⟩
      · exact (mem_withPre h).symm.imp (plain_acq c L op) fun h => ⟨_, h⟩
      · exact (mem_withPre h).symm.imp (plain_lock c L op) fun h => ⟨_, h⟩
    rcases hkeeps with h | ⟨f, h⟩ <;> rw [h] <;> rfl

/-- A recovery that has failed shows Failed, and its failure is logged (R262, R298). -/
theorem recoveryReturned_failure {o : RecoveryOutcome} (h : o ≠ .success) :
    recoveryReturned o L s =
      { s with
        fsm := .failed, reason := some o
        trace := .logged .monitor (some L) o
          :: .ended .monitor .recover (some L) o :: s.trace } := by
  rw [recoveryReturned_eq, recovered, if_neg h]

/-- What the failing step of a monitor recovery leaves (R298, R333). -/
theorem recoveryFailed_eq {next : Lane} {left : List LaneId} {e : Event} :
    recoveryFailed next L left inv (record e (drawReply s)) =
      { s with
        trace := (if left = [] then []
          else [.began .monitor .recover (some (pickRecovery next left))])
          ++ .logged .monitor (some L) .transportError
          :: .ended .monitor .recover (some L) .transportError :: e :: s.trace
        fsm := .failed, reason := some .transportError, transportFault := true
        phy := s.phy.tail, draws := s.draws + 1
        inv := some { inv with
          pos := .run 0
          proc := .tick (if left = [] then .finish else
            .recover (pickRecovery next left) (left.erase (pickRecovery next left))) } } := by
  rw [recoveryFailed, recoveryReturned_failure (by decide), chooseNext_eq]
  rfl

end

/-- Settles O54: the failing step ends the recovery and draws the next one, or none. -/
theorem monitorRecoveryFails : Obligations.MonitorRecoveryFails := by
  intro L left inv n op next s hlock hinv hproc hpos hop hwait hnext hfail following
  obtain ⟨e, he, hfails⟩ := failsIn_of_reply (n := n) (inv := inv) (s := takeTurn s) hwait
    ((nextReply_eq_replyAt (takeTurn s)).trans hfail)
  have hstep := step_of_tick hlock hinv hnext hproc
  rw [tickStep, recoveryStep_op (s := takeTurn s) hpos hop, hfails, recoveryFailed_eq] at hstep
  obtain ⟨-, -, hvco, -, hheld, -⟩ := applyPre_frame op.pre (takeTurn s)
  have hkept := kept_applyPre op.pre (takeTurn s)
  exact ⟨_, e, _, hstep, he, by rw [applyPre_trace]; rfl, rfl, rfl,
    recoverCode_target (s := takeTurn s) hop, rfl, hheld.trans hlock, rfl, rfl, rfl,
    hkept.monArmed, hkept.monPeriod, hvco⟩

end Sys2Proof.Machine
end

section
/-! The statements of the interrupt retry (spec/45_monitor_probe R300, R301): how an attempt begins,
goes on and ends. -/

namespace Sys2Proof.Machine

open Reference

section

variable {s : State} {l : IrqLane} {inv : Invocation} {next : Lane} {o : RecoveryOutcome}

/-! ## The grant of an attempt (R300) -/

/-- A burst whose block is unbound or being detached ends with no attempt (R300; log 25). -/
theorem grantIrq_quiet (h : s.bound = false ∨ detachAccepted s = true) :
    grantIrq l s = burstEnd l false s := by
  rw [grantIrq, if_pos (by simpa using h), endBurst_eq]

/-- A grant to an interrupt retry (R343). -/
theorem step_of_irq_granted {rest : List Agent} (hfree : s.lock = none)
    (hnext : nextMove s = .sequencer next)
    (hgrant : grantChoice (takeTurn s) = some (irqAgent l, rest)) :
    step s = .next (grantIrq l { takeTurn s with grants := rest }) := by
  rw [step_of_sequencer hnext, sequencerMove_free (s := takeTurn s) hfree, grant, hgrant]
  exact grantTo_irqAgent

/-- The first primitive of FP writes the lane's frequency-acquisition register (R230). -/
theorem fpCode_first (c : Cfg) (l : Lane) : (fpCode c (.lane l))[0]? =
    some (opOf (.write (laneAddr c.baseFaCtrl l) c.patFaEnable)) := rfl

/-- FP returns TransportError to its attempt, which logs it (R300, R333). -/
theorem attemptGoes_transportError :
    attemptGoes l (.returned .transportError) inv (setTransportFault s) =
      { s with
        trace := .logged (irqAgent l) (some (.lane (irqLaneOf l))) .transportError :: s.trace
        transportFault := true, inv := some { inv with pos := .returned .transportError } } := rfl

/-- The first write of an attempt that the PHY takes (R300). -/
theorem attemptStep_first_ok {v : Word} (h : nextReply s = .ok v) :
    attemptStep l (attemptStart l) s =
      { s with
        trace := .wr (laneAddr (cfgOf s).baseFaCtrl (irqLaneOf l)) (cfgOf s).patFaEnable :: s.trace
        inv := some { attemptStart l with pos := .run 1 }
        phy := s.phy.tail, draws := s.draws + 1 } := by
  rw [attemptStep_op rfl (fpCode_first _ _), perform_write rfl, h]
  rfl

/-- The first write of an attempt that fails (R300, R333). -/
theorem attemptStep_first_fail (h : nextReply s = .fail) :
    attemptStep l (attemptStart l) s =
      { s with
        trace := .logged (irqAgent l) (some (.lane (irqLaneOf l))) .transportError
          :: .wrFail (laneAddr (cfgOf s).baseFaCtrl (irqLaneOf l)) (cfgOf s).patFaEnable :: s.trace
        transportFault := true
        inv := some { attemptStart l with pos := .returned .transportError }
        phy := s.phy.tail, draws := s.draws + 1 } := by
  rw [attemptStep_op rfl (fpCode_first _ _), perform_write rfl, h]
  dsimp only
  rw [attemptGoes_transportError]
  rfl

/-- What the beginning of an attempt leaves as it was, and what it writes (R300). -/
theorem attemptBegun_fields (rest : List Agent) : let u := attemptBegun l rest s
    u.conf = s.conf ∧ u.phy = s.phy ∧ u.draws = s.draws ∧ u.fsm = s.fsm ∧ u.vco = s.vco ∧
      u.monArmed = s.monArmed ∧ u.monDue = s.monDue ∧ u.transportFault = s.transportFault ∧
      u.grants = rest ∧
      u.trace = .began (irqAgent l) .irqRetry (some (.lane (irqLaneOf l))) :: s.trace ∧
      irqGet u l = { irqGet s l with attempts := (irqGet s l).attempts + 1 } := by
  simp [attemptBegun]

end

/-- Settles O57: a grant that ends the burst is `grantIrq_quiet`; else the attempt begins, and its
first write is split on the PHY's answer. -/
theorem attemptBegins : Obligations.AttemptBegins := by
  intro l next rest s hfree hnext hgrant x lane a
  rw [step_of_irq_granted hfree hnext hgrant]
  refine ⟨fun h => ?_, fun hbound hdetach => ?_⟩
  · rw [grantIrq_quiet (by exact h)]
  · rw [grantIrq_attempt (by exact hbound) (by exact hdetach), beginAttempt_eq]
    obtain ⟨hconf, hphy, hdraws, hfsm, hvco, harmed, hdue, hfault, hgrants, htrace, hirq⟩ :=
      attemptBegun_fields (s := takeTurn s) (l := l) rest
    rw [irqGet_takeTurn] at hirq
    have hreply : nextReply (holding (irqAgent l) (attemptStart l)
        (attemptBegun l rest (takeTurn s))) = replyAt s 0 := by
      rw [nextReply_eq_replyAt, replyAt, replyAt]
      simp only [holding, hphy, hdraws]
      rfl
    cases hr : replyAt s 0 with
    | ok v =>
      rw [attemptStep_first_ok (hreply.trans hr)]
      refine ⟨_, _, rfl, rfl, rfl, rfl, by rw [← hirq]; cases l <;> rfl, hfsm, hvco, harmed, hdue,
        hgrants, fun _ _ => ⟨rfl, hfault, ?_⟩, nofun⟩
      simp only [holding, cfgOf, hconf, htrace]
      rfl
    | fail =>
      rw [attemptStep_first_fail (hreply.trans hr)]
      refine ⟨_, _, rfl, rfl, rfl, rfl, by rw [← hirq]; cases l <;> rfl, hfsm, hvco, harmed, hdue,
        hgrants, nofun, fun _ => ⟨rfl, rfl, ?_⟩⟩
      simp only [holding, cfgOf, hconf, htrace]
      rfl

section

variable {s : State} {l : IrqLane} {inv : Invocation} {next : Lane} {o : RecoveryOutcome}

/-! ## The steps of an attempt (R300, R333) -/

/-- A step of the attempt that holds the sequencer. -/
theorem step_of_attempt (hlock : s.lock = some (irqAgent l)) (hinv : s.inv = some inv)
    (hproc : inv.proc = .irqRetry l) (hnext : nextMove s = .sequencer next) :
    step s = .next (attemptStep l inv (takeTurn s)) := by
  have hinv' : (takeTurn s).inv = some inv := hinv
  rw [step_of_sequencer hnext, sequencerMove_held (s := takeTurn s) hlock]
  simp only [resume, hinv', hproc]

theorem attemptStep_returned (h : inv.pos = .returned o) :
    attemptStep l inv s = attemptReturned l o inv s := by
  simp only [attemptStep, h]

theorem attemptStep_retried (h : inv.pos = .retried o) :
    attemptStep l inv s = endAttempt l o s := by
  simp only [attemptStep, h]

/-- A failed transaction makes FP return TransportError, logged (R333). -/
theorem attemptStep_fails {n : Nat} {op : MicroOp} (hpos : inv.pos = .run n)
    (hop : (fpCode (cfgOf s) (.lane (irqLaneOf l)))[n]? = some op)
    (hwait : ∀ t back, op.act ≠ .wait t back) (hr : nextReply s = .fail) :
    ∃ e, isFailure e = true ∧ attemptStep l inv s =
      { s with
        trace := .logged (irqAgent l) (some (.lane (irqLaneOf l))) .transportError :: e :: s.trace
        transportFault := true, inv := some { inv with pos := .returned .transportError }
        phy := s.phy.tail, draws := s.draws + 1 } := by
  obtain ⟨e, he, hfails⟩ := failsIn_of_reply (n := n) (inv := inv) hwait hr
  refine ⟨e, he, ?_⟩
  rw [attemptStep_op hpos hop, hfails, plain_fp _ _ op (List.mem_of_getElem? hop),
    attemptGoes_transportError]
  rfl

/-- The retry delay of a failed attempt, where another one remains (R300, R12). -/
theorem attemptReturned_waits (ho : o ≠ .success) (hlt : (irqGet s l).attempts < 8)
    (hd : (cfgOf s).tIrqRetry ≠ 0) : attemptReturned l o inv s =
      { s with
        trace := .wait .tIrqRetry :: s.trace
        now := s.now + (cfgOf s).tIrqRetry
        inv := some { inv with pos := .retried o } } :=
  if_pos ⟨ho, hlt, hd⟩

/-- No delay follows the last attempt, nor one whose delay is no step (R300, R12). -/
theorem attemptReturned_ends (h : (irqGet s l).attempts = 8 ∨ (cfgOf s).tIrqRetry = 0) :
    attemptReturned l o inv s = endAttempt l o s :=
  if_neg fun ⟨_, hlt, hd⟩ => h.elim hlt.ne hd

/-- A failed attempt with another one left ends, and its burst goes on (R300). -/
theorem endAttempt_goes_on (ho : o ≠ .success) (hlt : (irqGet s l).attempts < 8) :
    endAttempt l o s =
      { s with
        trace := .ended (irqAgent l) .irqRetry (some (.lane (irqLaneOf l))) o :: s.trace
        lock := none, inv := none } := by
  rw [endAttempt_failure ho, if_neg hlt.ne]
  rfl

end

/-- Settles O58: each clause is one position of the attempt, with the step's equation there. -/
theorem attemptEnds : Obligations.AttemptEnds := by
  intro l inv next s hlock hinv hproc hnext x L ended
  have hx : irqGet (takeTurn s) l = x := irqGet_takeTurn
  rw [step_of_attempt hlock hinv hproc hnext]
  refine ⟨fun n hpos hop => ?_, fun n op hpos hop hwait hfail => ?_, fun o hpos ho hlt hd => ?_,
    fun o hpos ho hlt hd => ?_, fun o hpos ho hlt => ?_, fun o hpos ho hlast => ?_⟩
  · rw [attemptStep_done hpos (by exact hop), ← attemptEnd_success]
    rfl
  · obtain ⟨e, he, hstep⟩ := attemptStep_fails (s := takeTurn s) hpos hop hwait
      ((nextReply_eq_replyAt _).trans hfail)
    exact ⟨e, he, congrArg Host.Outcome.next hstep⟩
  · rw [attemptStep_returned hpos, attemptReturned_waits ho (hx ▸ hlt) (by exact hd)]
    rfl
  · rw [attemptStep_returned hpos, attemptReturned_ends (s := takeTurn s) (.inr hd),
      endAttempt_goes_on ho (hx ▸ hlt)]
    rfl
  · rw [attemptStep_retried hpos, endAttempt_goes_on ho (hx ▸ hlt)]
    rfl
  · rw [attemptStep_returned hpos, attemptReturned_ends (s := takeTurn s) (.inl (hx ▸ hlast)),
      endAttempt_failure ho, if_pos (hx ▸ hlast)]
    rfl

end Sys2Proof.Machine
end

section
/-! What binds, begins and stays quiet (spec/45_monitor_probe R293, R302, R303): which steps can
unbind the block or disarm the monitor, and what an unbound block begins. -/

namespace Sys2Proof.Machine

open Reference

section

variable {s t u : State} {i : Instr} {a d : Word} {inv : Invocation} {o : RecoveryOutcome}
  {next : Lane} {l : IrqLane} {L : LaneId} {left : List LaneId} {P : Agent → Kind → Prop}

/-! ## The events of a step -/

/-- From `s` to `t` the trace grows, and each Begin event in what is new meets `P`. -/
def Begins (P : Agent → Kind → Prop) (s t : State) : Prop :=
  ∃ es, t.trace = es ++ s.trace ∧ ∀ ag k L, .began ag k L ∈ es → P ag k

theorem Begins.of_trace (h : t.trace = s.trace) : Begins P s t := ⟨[], h, by simp⟩

theorem Begins.of_same (h : SameTrace s t) : Begins P s t := .of_trace h.trace

theorem Begins.trans (h : Begins P s t) (g : Begins P t u) : Begins P s u := by
  obtain ⟨es, ht, hes⟩ := h
  obtain ⟨es', hu, hes'⟩ := g
  refine ⟨es' ++ es, by rw [hu, ht, List.append_assoc], fun ag k L hmem => ?_⟩
  exact (List.mem_append.mp hmem).elim (hes' ag k L) (hes ag k L)

/-- One event that is no Begin. -/
theorem Begins.event {e : Event} (ht : t.trace = e :: s.trace) (he : ∀ ag k L, e ≠ .began ag k L) :
    Begins P s t :=
  ⟨[e], ht, fun ag k L hmem => absurd (List.mem_singleton.mp hmem).symm (he ag k L)⟩

theorem Begins.began {ag : Agent} {k : Kind} {L : Option LaneId}
    (ht : t.trace = .began ag k L :: s.trace) (hP : P ag k) : Begins P s t := by
  refine ⟨[.began ag k L], ht, fun ag' k' L' hmem => ?_⟩
  cases List.mem_singleton.mp hmem
  exact hP

/-- What is new in a trace is determined by the two states. -/
theorem Begins.of_append {es : List Event} {ag : Agent} {k : Kind} {L : Option LaneId}
    (h : Begins P s t) (ht : t.trace = es ++ s.trace) (hmem : .began ag k L ∈ es) : P ag k := by
  obtain ⟨es', ht', hes'⟩ := h
  exact hes' ag k L (List.append_cancel_right (ht'.symm.trans ht) ▸ hmem)

theorem ne_began_of_primitive {e : Event} (he : isTransaction e = true ∨ ∃ t, e = .wait t)
    (ag : Agent) (k : Kind) (L : Option LaneId) : e ≠ .began ag k L := by
  rintro rfl
  simp [isTransaction] at he

/-! ## One step of a host command -/

theorem sameMonitor_setTransportFault (s : State) : SameMonitor s (setTransportFault s) := by
  constructor <;> rfl

theorem SameMonitor.trans (h : SameMonitor s t) (g : SameMonitor t u) : SameMonitor s u := by
  constructor <;> simp [g.conf, h.conf, g.monSample, h.monSample, g.monPeriod, h.monPeriod,
    g.monArmed, h.monArmed, g.monDue, h.monDue, g.bound, h.bound, g.lock, h.lock, g.hostCmd,
    h.hostCmd, g.irq2, h.irq2, g.irq3, h.irq3]

/-- One step of a host command performs at most one primitive, which leaves the monitor's fields
alone and begins nothing; the command then goes on or ends. -/
theorem hostAdvance_leads : ∃ u, SameMonitor s u ∧ Begins P s u ∧
    ((∃ p inv', hostAdvance i (fun c a d => codeOf c a d i) (finalOf i) a d inv s = goTo p inv' u) ∨
      ∃ o, hostAdvance i (fun c a d => codeOf c a d i) (finalOf i) a d inv s =
        finishHost i o (finalOf i o u)) := by
  have hover (o : RecoveryOutcome) : ∃ u, SameMonitor s u ∧ Begins P s u ∧
      ((∃ p inv', finishHost i o (finalOf i o s) = goTo p inv' u) ∨
        ∃ o', finishHost i o (finalOf i o s) = finishHost i o' (finalOf i o' u)) :=
    ⟨s, (Kept.refl s).sameMonitor, .of_trace rfl, .inr ⟨o, rfl⟩⟩
  unfold hostAdvance
  split
  next n hpos =>
    split
    · exact hover _
    next op hop =>
      rcases perform_shape op n inv goTo
        (fun s => finishHost i .transportError (finalOf i .transportError (setTransportFault s))) s
        with ⟨e, p, inv', u, heq, -, htrace, -, he, -, hkept, -⟩ | ⟨e, heq, -, he⟩
      · exact ⟨u, hkept.sameMonitor, .event htrace (ne_began_of_primitive he),
          .inl ⟨p, inv', heq⟩⟩
      · have hkept := (kept_applyPre op.pre s).trans ((kept_drawReply _).trans (kept_record e _))
        exact ⟨_, hkept.sameMonitor.trans (sameMonitor_setTransportFault _),
          .event (by simp) (ne_began_of_primitive (.inl he)), .inr ⟨_, heq⟩⟩
  · exact hover _
  · exact hover _

/-- A step of a running command begins nothing. -/
theorem hostAdvance_begins :
    Begins P s (hostAdvance i (fun c a d => codeOf c a d i) (finalOf i) a d inv s) := by
  obtain ⟨u, -, hbegins, ⟨p, inv', heq⟩ | ⟨o, heq⟩⟩ :=
    hostAdvance_leads (P := P) (s := s) (i := i) (a := a) (d := d) (inv := inv)
  · rw [heq]
    exact hbegins.trans (.of_trace rfl)
  · rw [heq]
    refine (hbegins.trans (.of_same (finalOf_same i o u))).trans ?_
    exact .event (e := .ended .host (kindOf i) (laneOperand i) o) rfl nofun

/-! ## What keeps the binding (R293, R341) -/

/-- Whether the block is bound and the monitor armed. -/
def bindingOf (s : State) : Bool × Bool := (s.bound, s.monArmed)

theorem SameMonitor.binding (h : SameMonitor s t) : bindingOf t = bindingOf s := by
  rw [bindingOf, h.bound, h.monArmed, bindingOf]

theorem Kept.binding (h : Kept s t) : bindingOf t = bindingOf s := h.sameMonitor.binding

@[simp] theorem binding_record (e : Event) (s : State) : bindingOf (record e s) = bindingOf s := rfl

@[simp] theorem binding_drawReply (s : State) : bindingOf (drawReply s) = bindingOf s := rfl

@[simp] theorem binding_setTransportFault (s : State) :
    bindingOf (setTransportFault s) = bindingOf s := rfl

@[simp] theorem binding_release (s : State) : bindingOf (release s) = bindingOf s := rfl

@[simp] theorem binding_goTo (p : Position) (inv : Invocation) (s : State) :
    bindingOf (goTo p inv s) = bindingOf s := rfl

@[simp] theorem binding_toPhase (p : TickPhase) (inv : Invocation) (s : State) :
    bindingOf (toPhase p inv s) = bindingOf s := rfl

@[simp] theorem binding_waitFor (t : Delay) (s : State) :
    bindingOf (waitFor t s) = bindingOf s := rfl

@[simp] theorem binding_irqSet (l : IrqLane) (x : IrqLine) (s : State) :
    bindingOf (irqSet l x s) = bindingOf s := by
  simp [bindingOf]

/-- A primitive keeps the binding where what follows it does. -/
theorem binding_perform {op : MicroOp} {n : Nat} {go : Continuation} {fail : State → State}
    (hgo : ∀ p inv u, bindingOf (go p inv u) = bindingOf u)
    (hfail : ∀ u, bindingOf (fail u) = bindingOf u) :
    bindingOf (perform op n inv go fail s) = bindingOf s := by
  rcases perform_passes op n inv go fail s with ⟨p, inv', u, heq, hu⟩ | ⟨e, heq⟩
  · rw [heq, hgo, hu.kept.binding]
  · rw [heq, hfail, binding_record, binding_drawReply, (kept_applyPre op.pre s).binding]

@[simp] theorem binding_endTick (o : RecoveryOutcome) (s : State) :
    bindingOf (endTick o s) = bindingOf s := rfl

@[simp] theorem binding_chooseNext : bindingOf (chooseNext next left inv s) = bindingOf s := by
  rw [chooseNext_eq]
  rfl

@[simp] theorem binding_recoverEnd (o : RecoveryOutcome) (s : State) :
    bindingOf (recoverEnd o s) = bindingOf s := by
  unfold recoverEnd
  split <;> rfl

@[simp] theorem binding_recoveryReturned :
    bindingOf (recoveryReturned o L s) = bindingOf s := by
  unfold recoveryReturned
  dsimp only
  split <;> simp

@[simp] theorem binding_recoveryOver :
    bindingOf (recoveryOver next L left o inv s) = bindingOf s := by
  unfold recoveryOver
  split <;> simp

theorem binding_recoveryStep : bindingOf (recoveryStep next L left inv s) = bindingOf s := by
  unfold recoveryStep
  dsimp only
  split
  · split
    · exact binding_recoveryOver
    · refine binding_perform (fun p inv' u => ?_) fun u => by simp [recoveryFailed]
      unfold recoveryGoes
      split
      · exact binding_goTo _ _ _
      · split <;> simp
  · exact binding_recoveryOver
  · exact binding_recoveryOver

theorem binding_sampleStep {taken : List Bool} :
    bindingOf (sampleStep next taken inv s) = bindingOf s := by
  unfold sampleStep
  cases hr : nextReply s with
  | ok v =>
    rw [memRead_ok hr]
    dsimp only
    unfold sampleTaken
    split
    · exact binding_chooseNext
    · simp
  | fail =>
    rw [memRead_fail hr]
    simp [sampleFailed]

@[simp] theorem binding_tickStep {phase : TickPhase} :
    bindingOf (tickStep next phase inv s) = bindingOf s := by
  cases phase with
  | sample taken => exact binding_sampleStep
  | recover L left => exact binding_recoveryStep
  | finish => exact binding_endTick _ _

@[simp] theorem binding_endBurst (ok : Bool) : bindingOf (endBurst l ok s) = bindingOf s :=
  binding_irqSet _ _ _

@[simp] theorem binding_endAttempt : bindingOf (endAttempt l o s) = bindingOf s := by
  unfold endAttempt
  dsimp only
  split
  · simp
  · split <;> simp

@[simp] theorem binding_attemptGoes {p : Position} :
    bindingOf (attemptGoes l p inv s) = bindingOf s := by
  cases p <;> rfl

@[simp] theorem binding_attemptStep : bindingOf (attemptStep l inv s) = bindingOf s := by
  unfold attemptStep
  split
  · split
    · exact binding_endAttempt
    · exact binding_perform (fun _ _ _ => binding_attemptGoes) fun _ => by simp
  · unfold attemptReturned
    split <;> simp
  · exact binding_endAttempt

theorem binding_beginAttempt : bindingOf (beginAttempt l s) = bindingOf s := by
  cases l <;> rfl

theorem binding_grantIrq : bindingOf (grantIrq l s) = bindingOf s := by
  unfold grantIrq
  split
  · exact binding_endBurst false
  · dsimp only
    split
    · rw [binding_attemptStep, binding_beginAttempt]
    · exact binding_beginAttempt

/-! ## Which steps unbind or disarm (R293, R339, R341) -/

/-- From `s` to `t` only the end of DETACH unbinds, and only an accepted DETACH disarms. -/
structure Retains (s t : State) : Prop where
  bound : s.bound = true → t.bound = false →
    ∃ o, t.trace.head? = some (.ended .host .detach none o)
  monArmed : s.monArmed = true → t.monArmed = false → detachAccepted t = true

theorem Retains.of_binding (h : bindingOf t = bindingOf s) : Retains s t := by
  obtain ⟨hb, ha⟩ := Prod.mk.inj h
  exact ⟨fun hs ht => by simp [hb, hs] at ht, fun hs ht => by simp [ha, hs] at ht⟩

theorem Retains.begun (h : bindingOf u = bindingOf s) (g : Retains u t) : Retains s t := by
  obtain ⟨hb, ha⟩ := Prod.mk.inj h
  exact ⟨hb ▸ g.bound, ha ▸ g.monArmed⟩

/-- Of the commands only DETACH unbinds, and PROBE binds and arms (R290, R293). -/
theorem retains_finishHost : Retains s (finishHost i o (finalOf i o s)) := by
  cases i with
  | detach => exact ⟨fun _ _ => ⟨o, rfl⟩, fun hs ht => absurd (hs.symm.trans ht) (by decide)⟩
  | probe =>
    by_cases ho : o = .success
    · subst ho
      obtain ⟨hb, ha, -⟩ := attach_fields s
      exact ⟨fun _ ht => absurd (hb.symm.trans ht) (by decide),
        fun _ ht => absurd (ha.symm.trans ht) (by decide)⟩
    · have hfinal : finalOf .probe o s = s := if_neg ho
      rw [hfinal]
      exact .of_binding rfl
  | recover L => exact .of_binding (binding_recoverEnd o s)
  | _ => exact .of_binding rfl

theorem retains_hostAdvance :
    Retains s (hostAdvance i (fun c a d => codeOf c a d i) (finalOf i) a d inv s) := by
  obtain ⟨u, hsame, -, ⟨p, inv', heq⟩ | ⟨o, heq⟩⟩ := hostAdvance_leads
    (P := fun _ _ => True) (s := s) (i := i) (a := a) (d := d) (inv := inv)
  · rw [heq]
    exact .of_binding hsame.binding
  · rw [heq]
    exact .begun hsame.binding retains_finishHost

/-- A grant takes nothing of the binding, but for DETACH's (R343). -/
theorem retains_grantTo {who : Agent} (hfree : s.lock = none)
    (ht : grantTo exec who next s = .next t) : Retains s t := by
  cases who with
  | host =>
    simp only [grantTo] at ht
    split at ht
    next c hc =>
      rw [exec_ready (a := c.addr) (d := c.data) ⟨hfree, hc⟩] at ht
      cases ht
      exact .begun (u := beginHost c.cmd s) rfl retains_hostAdvance
    next => cases ht; exact .of_binding rfl
  | monitor => cases ht; exact .of_binding binding_tickStep
  | irq2 => cases ht; exact .of_binding binding_grantIrq
  | irq3 => cases ht; exact .of_binding binding_grantIrq

theorem retains_resume {ag : Agent} (hlock : s.lock = some ag)
    (ht : resume exec next s = .next t) : Retains s t := by
  unfold resume at ht
  split at ht
  next => cases ht; exact .of_binding rfl
  next inv hi =>
    split at ht
    next c a d hp =>
      rw [exec_held hlock hi hp] at ht
      cases ht
      exact retains_hostAdvance
    next => cases ht; exact .of_binding binding_tickStep
    next => cases ht; exact .of_binding binding_attemptStep

theorem retains_sequencerMove (ht : sequencerMove exec next s = .next t) : Retains s t := by
  cases hl : s.lock with
  | some ag =>
    rw [sequencerMove_held hl] at ht
    exact retains_resume hl ht
  | none =>
    rw [sequencerMove_free hl, grant] at ht
    split at ht
    · cases ht; exact .of_binding rfl
    next who rest _ =>
      exact .begun (u := { s with grants := rest }) rfl (retains_grantTo hl ht)

/-- An accepted DETACH disarms; no other request does (R140, R293). -/
theorem retains_cmdWrite (w : Word) : Retains s (cmdWrite w s) := by
  have haccept (c : Instr) : Retains s (accept w c (clearRequest s)) := by
    by_cases hc : c = .detach
    · subst hc
      exact ⟨fun hs ht => absurd (hs.symm.trans ht) (by decide), fun _ _ => rfl⟩
    · rw [accept_of_ne_detach hc]
      exact .of_binding rfl
  unfold cmdWrite
  split
  · exact .of_binding rfl
  · split
    · exact .of_binding rfl
    next c _ =>
      unfold request
      split
      · exact .of_binding rfl
      · split
        · exact .of_binding rfl
        · exact haccept c

theorem retains_hostWrite (off : BitVec 4) (v : Word) : Retains s (hostWrite off v s) := by
  unfold hostWrite hostEffect
  split
  · exact .begun (binding_record _ _) (retains_cmdWrite v)
  · split
    · exact .of_binding rfl
    · split <;> exact .of_binding rfl

theorem retains_hostProgramStep : Retains s (hostProgramStep s) := by
  unfold hostProgramStep
  split
  · exact .of_binding rfl
  next rest _ => exact .begun (u := { s with hostProg := rest }) rfl (retains_hostWrite _ _)
  · exact .of_binding rfl
  · split <;> exact .of_binding rfl

theorem retains_takeMove {m : Move} (hm : ∀ l2 l3, m ≠ .reset l2 l3)
    (ht : takeMove exec m s = .next t) : Retains s t := by
  cases m with
  | sequencer next => exact retains_sequencerMove ht
  | hostWrite off v => cases ht; exact retains_hostWrite off v
  | hostRead off => cases ht; exact .of_binding rfl
  | hostProgram => cases ht; exact retains_hostProgramStep
  | timer =>
    cases ht
    unfold timerStep
    split <;> exact .of_binding rfl
  | irqSample l level =>
    cases ht
    unfold irqSample
    split
    · dsimp only
      split <;> exact .of_binding (binding_irqSet _ _ _)
    · exact .of_binding rfl
  | elapse us => cases ht; exact .of_binding rfl
  | reset l2 l3 => exact absurd rfl (hm l2 l3)

end

/-- Settles O18: ticks and attempts keep the binding, `finalOf` of DETACH alone unbinds, and
`detachAccept` alone disarms. -/
theorem onlyDetachUnbinds : Obligations.OnlyDetachUnbinds := by
  intro s t ht hreset
  have hretains : Retains s t := .begun (u := takeTurn s) rfl (retains_takeMove hreset ht)
  exact ⟨hretains.bound, hretains.monArmed⟩

end Sys2Proof.Machine
end

section
/-! What an unbound block begins (spec/45_monitor_probe R302, R303): no tick and no attempt, and of
the commands only those that do not need BOUND; and how a quiet block stays quiet. -/

namespace Sys2Proof.Machine

open Reference

section

variable {s t u : State} {i : Instr} {a d : Word} {inv : Invocation} {o : RecoveryOutcome}
  {next : Lane} {l : IrqLane} {P : Agent → Kind → Prop}

/-! ## What leaves the block quiet (R302) -/

theorem SameMonitor.quiet (h : SameMonitor s t) (hq : Quiet s) : Quiet t where
  unbound := h.bound.trans hq.unbound
  disarmed := h.monArmed.trans hq.disarmed
  not_due := h.monDue.trans hq.not_due
  no_pending := by rw [h.irq2, h.irq3]; exact hq.no_pending
  not_running := by rw [h.lock]; exact hq.not_running

theorem Quiet.pending (h : Quiet s) (l : IrqLane) : (irqGet s l).pending = false := by
  cases l with
  | l2 => exact h.no_pending.1
  | l3 => exact h.no_pending.2

/-- Who holds the sequencer is the host or nobody, before and after. -/
theorem Quiet.locked {lock : Option Agent} (h : Quiet s) (hl : lock = none ∨ lock = some .host) :
    Quiet { s with lock := lock } :=
  ⟨h.unbound, h.disarmed, h.not_due, h.no_pending, hl⟩

/-- Writing a line keeps a block quiet unless a burst becomes pending. -/
theorem Quiet.irqSet {x : IrqLine} (h : Quiet s) (hx : x.pending = false) :
    Quiet (irqSet l x s) := by
  obtain ⟨hbound, harmed, hdue, ⟨h2, h3⟩, hlock⟩ := h
  cases l with
  | l2 => exact ⟨hbound, harmed, hdue, ⟨hx, h3⟩, hlock⟩
  | l3 => exact ⟨hbound, harmed, hdue, ⟨h2, hx⟩, hlock⟩

/-- The end of a command that binds nothing leaves a quiet block quiet. -/
theorem Quiet.finishHost (h : Quiet s) (hb : (finishHost i o (finalOf i o s)).bound = false) :
    Quiet (finishHost i o (finalOf i o s)) := by
  obtain ⟨hbound, harmed, hdue, hpending, -⟩ := h
  cases i with
  | probe =>
    by_cases ho : o = .success
    · subst ho
      exact absurd ((attach_fields s).1.symm.trans hb) (by decide)
    · have hfinal : finalOf .probe o s = s := if_neg ho
      rw [hfinal]
      exact ⟨hbound, harmed, hdue, hpending, .inl rfl⟩
  | recover L =>
    show Quiet (Machine.finishHost _ o (recoverEnd o s))
    unfold recoverEnd
    split <;> exact ⟨hbound, harmed, hdue, hpending, .inl rfl⟩
  | detach => exact ⟨rfl, harmed, hdue, hpending, .inl rfl⟩
  | _ => exact ⟨hbound, harmed, hdue, hpending, .inl rfl⟩

/-! ## The steps of an unbound block -/

/-- What an unbound block may begin: a host command that does not need BOUND (R303). -/
def BeginsUnbound (ag : Agent) (k : Kind) : Prop :=
  ag = .host ∧ (k = .probe ∨ k = .regRead ∨ k = .regWrite)

/-- From `s` to `t` only what an unbound block may begin begins, and a block that is quiet in `s` is
so in `t` unless it is bound there. -/
structure StaysQuiet (s t : State) : Prop where
  begins : Begins BeginsUnbound s t
  quiet : Quiet s → t.bound = false → Quiet t

theorem StaysQuiet.refl (s : State) : StaysQuiet s s := ⟨.of_trace rfl, fun h _ => h⟩

theorem StaysQuiet.begun (hb : Begins BeginsUnbound s u) (hq : Quiet s → Quiet u)
    (h : StaysQuiet u t) : StaysQuiet s t :=
  ⟨hb.trans h.begins, fun hs => h.quiet (hq hs)⟩

theorem staysQuiet_of_sameMonitor (hb : Begins BeginsUnbound s t) (h : SameMonitor s t) :
    StaysQuiet s t :=
  ⟨hb, fun hs _ => h.quiet hs⟩

theorem staysQuiet_hostAdvance :
    StaysQuiet s (hostAdvance i (fun c a d => codeOf c a d i) (finalOf i) a d inv s) := by
  refine ⟨hostAdvance_begins, fun hs hb => ?_⟩
  obtain ⟨u, hsame, -, ⟨p, inv', heq⟩ | ⟨o, heq⟩⟩ := hostAdvance_leads
    (P := BeginsUnbound) (s := s) (i := i) (a := a) (d := d) (inv := inv)
  · rw [heq]
    exact SameMonitor.quiet (by constructor <;> rfl) (hsame.quiet hs)
  · rw [heq] at hb ⊢
    exact (hsame.quiet hs).finishHost hb

/-- The grant of a command that does not need BOUND (R142, R303). -/
theorem staysQuiet_beginHost (h : needsBound i = false) : StaysQuiet s
    (hostAdvance i (fun c a d => codeOf c a d i) (finalOf i) a d inv (beginHost i s)) := by
  refine .begun (.began (ag := .host) (k := kindOf i) (L := laneOperand i) rfl ⟨rfl, ?_⟩)
    (fun hs => SameMonitor.quiet (by constructor <;> rfl) (hs.locked (.inr rfl)))
    staysQuiet_hostAdvance
  rcases (needsBound_eq_false_iff i).mp h with rfl | rfl | rfl
  · exact .inl rfl
  · exact .inr (.inl rfl)
  · exact .inr (.inr rfl)

/-- The burst that an unbound block ends when it is granted (R300). -/
theorem staysQuiet_grantIrq (hb : s.bound = false) : StaysQuiet s (grantIrq l s) := by
  rw [grantIrq_quiet (.inl hb), ← endBurst_eq]
  exact ⟨.of_same (irqSet_same _ _ _), fun hs _ => hs.irqSet (burstEnded_pending _ _)⟩

/-- A grant in an unbound block: no tick is due, since only a bound block is armed (R293, R303). -/
theorem staysQuiet_grantTo {who : Agent} (h : Inv s) (hb : s.bound = false) (hfree : s.lock = none)
    (hreq : requests s who = true) (ht : grantTo exec who next s = .next t) : StaysQuiet s t := by
  cases who with
  | host =>
    simp only [grantTo] at ht
    split at ht
    next c hc =>
      rw [exec_ready (a := c.addr) (d := c.data) ⟨hfree, hc⟩] at ht
      cases ht
      have hneeds : needsBound c.cmd = false :=
        Bool.eq_false_iff.mpr fun hn =>
          absurd (hb.symm.trans (h.host.gate c hc hn)) (by decide)
      exact staysQuiet_beginHost hneeds
    next => cases ht; exact .refl s
  | monitor =>
    have hbound := h.monitor.armed_bound (h.monitor.due_armed hreq)
    exact absurd (hb.symm.trans hbound) (by decide)
  | irq2 => cases ht; exact staysQuiet_grantIrq hb
  | irq3 => cases ht; exact staysQuiet_grantIrq hb

/-- Only a host command runs in an unbound block (R303). -/
theorem staysQuiet_resume {ag : Agent} (h : Inv s) (hb : s.bound = false)
    (hlock : s.lock = some ag) (ht : resume exec next s = .next t) : StaysQuiet s t := by
  unfold resume at ht
  split at ht
  next => cases ht; exact .refl s
  next inv hi =>
    have hhost : procAgent inv.proc = .host := by
      by_contra hne
      exact absurd (hb.symm.trans (h.invocation.bound inv hi hne)) (by decide)
    split at ht
    next c a d hp =>
      rw [exec_held hlock hi hp] at ht
      cases ht
      exact staysQuiet_hostAdvance
    next phase hp => rw [hp] at hhost; cases hhost
    next l hp => rw [hp] at hhost; cases l <;> cases hhost

theorem staysQuiet_sequencerMove (h : Inv s) (hb : s.bound = false)
    (ht : sequencerMove exec next s = .next t) : StaysQuiet s t := by
  cases hl : s.lock with
  | some ag =>
    rw [sequencerMove_held hl] at ht
    exact staysQuiet_resume h hb hl ht
  | none =>
    rw [sequencerMove_free hl, grant] at ht
    split at ht
    · cases ht; exact .refl s
    next who rest hg =>
      have hreq : requests { s with grants := rest } who = true := by
        have hreq := (grantChoice_spec s).1 who rest hg
        cases who <;> exact hreq
      exact .begun (u := { s with grants := rest }) (.of_trace rfl)
        (SameMonitor.quiet (by constructor <;> rfl))
        (staysQuiet_grantTo (h.of_same (by repeat' constructor)) hb hl hreq ht)

/-! ## The other agents beside an unbound block -/

theorem staysQuiet_cmdWrite (w : Word) : StaysQuiet s (cmdWrite w s) := by
  refine ⟨.of_same (cmdWrite_same w s), fun hs _ => ?_⟩
  obtain ⟨hbound, harmed, hdue, hpending, hlock⟩ := hs
  have haccept (c : Instr) : Quiet (accept w c (clearRequest s)) := by
    by_cases hc : c = .detach
    · subst hc
      exact ⟨hbound, rfl, rfl, ⟨rfl, rfl⟩, hlock⟩
    · rw [accept_of_ne_detach hc]
      exact ⟨hbound, harmed, hdue, hpending, hlock⟩
  have hrefuse (r : RefuseReason) : Quiet (refuse r (clearRequest s)) :=
    ⟨hbound, harmed, hdue, hpending, hlock⟩
  unfold cmdWrite
  split
  · exact ⟨hbound, harmed, hdue, hpending, hlock⟩
  · split
    · exact hrefuse _
    next c _ =>
      unfold request
      split
      · exact hrefuse _
      · split
        · exact hrefuse _
        · exact haccept c

/-- Recording an access of the host. -/
theorem staysQuiet_record {e : Event} (he : ∀ ag k L, e ≠ .began ag k L) :
    StaysQuiet s (record e s) :=
  staysQuiet_of_sameMonitor (.event rfl he) (by constructor <;> rfl)

theorem staysQuiet_hostWrite (off : BitVec 4) (v : Word) : StaysQuiet s (hostWrite off v s) := by
  have hrecord : StaysQuiet s (record (.hostWr off v) s) := staysQuiet_record nofun
  have heffect : StaysQuiet (record (.hostWr off v) s) (hostWrite off v s) := by
    unfold hostWrite hostEffect
    split
    · exact staysQuiet_cmdWrite v
    · split
      · exact staysQuiet_of_sameMonitor (.of_trace rfl) (by constructor <;> rfl)
      · split
        · exact staysQuiet_of_sameMonitor (.of_trace rfl) (by constructor <;> rfl)
        · exact .refl _
  exact .begun hrecord.begins (fun hs => hrecord.quiet hs hs.unbound) heffect

/-- A state that differs in the host program only. -/
theorem StaysQuiet.of_hostProg {rest : List HostPrim}
    (h : StaysQuiet { s with hostProg := rest } t) : StaysQuiet s t :=
  .begun (u := { s with hostProg := rest }) (.of_trace rfl)
    (SameMonitor.quiet (by constructor <;> rfl)) h

theorem staysQuiet_hostProgramStep : StaysQuiet s (hostProgramStep s) := by
  have hread (off : BitVec 4) (s : State) : StaysQuiet s (hostRead off s) := staysQuiet_record nofun
  unfold hostProgramStep
  split
  · exact .refl s
  next rest _ => exact .of_hostProg (rest := rest) (staysQuiet_hostWrite _ _)
  next rest _ => exact .of_hostProg (rest := rest) (hread _ _)
  next rest _ =>
    split
    · exact .of_hostProg (rest := rest) (hread _ _)
    · exact hread _ s

/-- The timer makes no tick due while the monitor is disarmed (R294). -/
theorem staysQuiet_timerStep : StaysQuiet s (timerStep s) := by
  refine ⟨.of_same (timerStep_same s), fun hs _ => ?_⟩
  have hoff : ¬ timerEnabled s = true := fun hen =>
    absurd (hs.disarmed.symm.trans (timerEnabled_iff.mp hen).1) (by decide)
  rw [timerStep, if_neg hoff]
  exact hs

/-- An unbound block takes no edge (R299). -/
theorem staysQuiet_irqSample (level : Bool) : StaysQuiet s (irqSample l level s) := by
  refine ⟨.of_same (irqSample_same l level s), fun hs _ => ?_⟩
  have hfalls : ¬ Falls l level s := fun ⟨_, _, hbound, _⟩ =>
    absurd (hs.unbound.symm.trans hbound) (by decide)
  cases hirq : (cfgOf s).hasIrqRetry with
  | false => rw [irqSample_absent hirq]; exact hs
  | true => rw [irqSample_ignores hirq hfalls]; exact hs.irqSet (hs.pending l)

/-! ## A step of an unbound block (R302, R303) -/

theorem staysQuiet_takeMove {m : Move} (h : Inv s) (hb : s.bound = false)
    (hm : ∀ l2 l3, m ≠ .reset l2 l3) (ht : takeMove exec m s = .next t) : StaysQuiet s t := by
  cases m with
  | sequencer next => exact staysQuiet_sequencerMove h hb ht
  | hostWrite off v => cases ht; exact staysQuiet_hostWrite off v
  | hostRead off => cases ht; exact staysQuiet_record nofun
  | hostProgram => cases ht; exact staysQuiet_hostProgramStep
  | timer => cases ht; exact staysQuiet_timerStep
  | irqSample l level => cases ht; exact staysQuiet_irqSample level
  | elapse us =>
    cases ht
    exact staysQuiet_of_sameMonitor (.of_trace rfl) (by constructor <;> rfl)
  | reset l2 l3 => exact absurd rfl (hm l2 l3)

theorem step_staysQuiet (h : Inv s) (hb : s.bound = false)
    (hm : ∀ l2 l3, nextMove s ≠ .reset l2 l3) (ht : step s = .next t) : StaysQuiet s t :=
  .begun (u := takeTurn s) (.of_trace rfl) (SameMonitor.quiet (by constructor <;> rfl))
    (staysQuiet_takeMove h.takeTurn hb hm ht)

theorem step_reset {level2 level3 : Bool} (h : nextMove s = .reset level2 level3) :
    step s = .next (applyReset level2 level3 (takeTurn s)) := by
  rw [step, h]
  rfl

/-- A reset leaves a quiet block with no events (R370). -/
theorem applyReset_quiet (level2 level3 : Bool) (s : State) :
    Quiet (applyReset level2 level3 s) ∧ (applyReset level2 level3 s).trace = [] :=
  ⟨⟨rfl, rfl, rfl, ⟨rfl, rfl⟩, .inl rfl⟩, rfl⟩

/-- The end of DETACH leaves the block quiet: its acceptance has disarmed the monitor and dropped
what was pending (R293, R302). -/
theorem quiet_of_detach (h : Inv s) (hd : Ready .detach a d s) :
    Quiet { completed .detach .success [] s with bound := false } := by
  obtain ⟨-, hcmd⟩ := hd
  obtain ⟨harmed, hpending⟩ := h.monitor.detach_quiet (by simp [detachAccepted, hcmd])
  exact
    { unbound := rfl
      disarmed := harmed
      not_due := Bool.eq_false_iff.mpr fun hdue =>
        absurd (harmed.symm.trans (h.monitor.due_armed hdue)) (by decide)
      no_pending := hpending
      not_running := .inl rfl }

end

/-- Settles O15: a bound block is the first alternative; in an unbound one the step begins only what
does not need BOUND, and a reset begins nothing. -/
theorem gateOnBound : Obligations.GateOnBound := by
  rintro s t ag k L h ht ⟨es, hes, hmem⟩
  refine or_iff_not_imp_left.mpr fun hbound => ?_
  by_cases hreset : ∃ l2 l3, nextMove s = .reset l2 l3
  · obtain ⟨l2, l3, hm⟩ := hreset
    rw [step_reset hm] at ht
    cases ht
    rw [(applyReset_quiet _ _ _).2] at hes
    rw [(List.append_eq_nil_iff.mp hes.symm).1] at hmem
    cases hmem
  · push Not at hreset
    exact (step_staysQuiet h (Bool.eq_false_iff.mpr hbound) hreset ht).begins.of_append hes hmem

/-- Settles O55: DETACH's acceptance has left nothing but the binding, which its end clears; and no
step of an unbound block makes it anything but quiet, or bound. -/
theorem teardownQuiet : Obligations.TeardownQuiet := by
  refine ⟨fun a d s t h hd ht => ?_, fun s t h hq ht hb => ?_⟩
  · cases (detachResult a d s hd).symm.trans ht
    exact quiet_of_detach h hd
  · by_cases hreset : ∃ l2 l3, nextMove s = .reset l2 l3
    · obtain ⟨l2, l3, hm⟩ := hreset
      rw [step_reset hm] at ht
      cases ht
      exact ⟨(applyReset_quiet _ _ _).1, fun hno => absurd hm (hno l2 l3)⟩
    · push Not at hreset
      obtain ⟨⟨es, hes, hhost⟩, hquiet⟩ := step_staysQuiet h hq.unbound hreset ht
      exact ⟨hquiet hq hb, fun _ => ⟨es, hes, fun ag k L hmem => (hhost ag k L hmem).1⟩⟩

end Sys2Proof.Machine
end

section
/-! The statements of exceptions and arbitration (spec/60_exceptions): every step answers, how a
failed transaction ends a command, what a step of an invocation appends and does to the sequencer's
lock, and the fairness of the grants. -/

namespace Sys2Proof.Machine

open Reference

section

variable {s t : State} {i : Instr} {inv : Invocation} {ag : Agent}

/-! ## Every step answers (R341) -/

theorem exec_answers (i : Instr) (s : State) : ∃ t, exec i s = .next t := ⟨_, exec_eq i s⟩

theorem grantTo_answers (who : Agent) (next : Lane) (s : State) :
    ∃ t, grantTo exec who next s = .next t := by
  cases who with
  | host =>
    simp only [grantTo]
    split
    · exact exec_answers _ s
    · exact ⟨s, rfl⟩
  | monitor | irq2 | irq3 => exact ⟨_, rfl⟩

theorem resume_answers (next : Lane) (s : State) : ∃ t, resume exec next s = .next t := by
  unfold resume
  split
  · exact ⟨s, rfl⟩
  · split
    · exact exec_answers _ s
    · exact ⟨_, rfl⟩
    · exact ⟨_, rfl⟩

theorem sequencerMove_answers (next : Lane) (s : State) :
    ∃ t, sequencerMove exec next s = .next t := by
  unfold sequencerMove
  split
  · unfold grant
    split
    · exact ⟨s, rfl⟩
    · exact grantTo_answers _ next _
  · exact resume_answers next s

/-- The type of faults is empty and no move is refused (R84, R341). -/
theorem step_answers (s : State) : ∃ t, step s = .next t := by
  unfold step
  cases nextMove s with
  | sequencer next => exact sequencerMove_answers next _
  | _ => exact ⟨_, rfl⟩

/-! ## The configuration (R7) -/

theorem Performs.conf (h : Performs s t) : t.conf = s.conf := by
  cases h with
  | @intro op n inv go fail u begun reply trims goes fails =>
    rcases perform_passes op n inv go fail u with ⟨p, inv', w, heq, hw⟩ | ⟨e, heq⟩
    · rw [heq, (goes p inv' w).conf, hw.kept.conf, begun.conf]
    · rw [heq, (fails _).conf, record_conf, drawReply_conf, (kept_applyPre op.pre u).conf,
        begun.conf]

theorem attach_conf (s : State) : (attach s).conf = s.conf := by
  unfold attach
  dsimp only
  split <;> rfl

/-- No step changes the configuration, a reset included (R370; log 4). -/
theorem step_conf (ht : step s = .next t) : t.conf = s.conf := by
  by_cases hreset : ∃ l2 l3, nextMove s = .reset l2 l3
  · obtain ⟨l2, l3, hm⟩ := hreset
    rw [step_reset hm] at ht
    cases ht
    rfl
  · push Not at hreset
    rcases step_cases ht hreset with hc | hp | ⟨_, _, _, -, -, -, rfl⟩
    · exact hc.conf
    · exact hp.conf
    · exact attach_conf (takeTurn s)

/-! ## A command that waits (R343) -/

/-- A held sequencer takes no step of a command that is not the one it runs. -/
theorem exec_waits (hlock : s.lock = some ag) (hinv : s.inv = some inv)
    (hproc : ∀ a d, inv.proc ≠ .command i a d) : exec i s = .next s := by
  rw [exec_eq, runHost, hlock]
  dsimp only
  rw [hostResume, hinv]
  dsimp only
  split
  next c a d hc =>
    rw [if_neg]
    rintro rfl
    exact hproc a d hc
  · rfl
  · rfl

end

/-- Settles O17: a step is the move of one agent, none of which faults or is refused, and of what a
step can do nothing writes the configuration. -/
theorem stepAlwaysAnswers : Obligations.StepAlwaysAnswers := fun s =>
  (step_answers s).imp fun _ ht => ⟨ht, step_conf ht⟩

/-- Settles O48: the step of a command is taken only by the invocation that is that command. -/
theorem commandWaits : Obligations.CommandWaits := fun _ _ _ _ hlock hinv hproc =>
  exec_waits hlock hinv hproc

/-! ## A failed transaction of a command (R333, R338, R339) -/

section

variable {s : State} {i : Instr} {a d : Word} {inv : Invocation} {n : Nat} {op : MicroOp}

/-- The state in which the transaction `e` of a primitive with the label `p` has failed (R333). -/
def failedAt (p : Pre) (e : Event) (s : State) : State :=
  setTransportFault (record e (drawReply (applyPre p s)))

/-- A failed transaction of a running command ends it in that step (R333, R338). -/
theorem exec_of_failed_transaction (h : Running i a d inv s) (hpos : inv.pos = .run n)
    (hop : (codeOf (cfgOf s) a d i)[n]? = some op) (hwait : ∀ t back, op.act ≠ .wait t back)
    (hr : nextReply s = .fail) : ∃ e, isFailure e = true ∧ exec i s = .next
      (finishHost i .transportError (finalOf i .transportError (failedAt op.pre e s))) := by
  obtain ⟨e, he, hfails⟩ := failsIn_of_reply (n := n) (inv := inv) hwait hr
  exact ⟨e, he, by rw [exec_running h, hostAdvance_op hpos hop, hfails, failedAt]⟩

/-- A failed RECOVER makes its own updates of the orchestrator; no other command with a primitive
makes any update of its own when it fails (R262, R290). -/
theorem finalOf_transportError (hop : (codeOf (cfgOf s) a d i)[n]? = some op) (u : State) :
    (∃ L, i = .recover L ∧ finalOf i .transportError u =
        { u with fsm := .failed, reason := some .transportError }) ∨
      ((∀ L, i ≠ .recover L) ∧ op.pre = .nothing ∧ finalOf i .transportError u = u) := by
  by_cases hi : ∃ L, i = .recover L
  · obtain ⟨L, rfl⟩ := hi
    exact .inl ⟨L, rfl, rfl⟩
  · push Not at hi
    refine .inr ⟨hi, code_plain _ a d i hi op (List.mem_of_getElem? hop), ?_⟩
    cases i with
    | recover L => exact absurd rfl (hi L)
    | detach => cases hop
    | _ => rfl

end

/-- Settles O44: the failing step is `finishHost` after the failed transaction, and the final
updates of a command that fails are RECOVER's own or none. -/
theorem transportErrorEnds : Obligations.TransportErrorEnds := by
  intro i a d inv n op s h hpos hop hwait hr
  rw [← nextReply_eq_replyAt] at hr
  obtain ⟨e, he, heq⟩ := exec_of_failed_transaction h hpos hop hwait hr
  refine ⟨_, e, heq, he, ?_⟩
  have hpre := kept_applyPre op.pre s
  have hresult : (applyPre op.pre s).result = s.result := by cases op.pre <;> rfl
  rcases finalOf_transportError hop (failedAt op.pre e s) with
    ⟨L, rfl, hfinal⟩ | ⟨hi, hplain, hfinal⟩
  · rw [hfinal]
    simp [failedAt, hpre.bound, hpre.monArmed, hresult]
  · rw [hfinal]
    simp [failedAt, hplain, applyPre, hi]

/-! ## What a step appends, and what it does to the sequencer -/

section

variable {P : RecoveryOutcome → Prop} {s t u : State} {i : Instr} {a d : Word} {inv : Invocation}
  {o : RecoveryOutcome} {next : Lane} {l : IrqLane} {L : LaneId} {left : List LaneId} {ag : Agent}

/-- From `s` to `t` the trace grows, and `P` holds of each outcome that what is new reports. -/
def Reports (P : RecoveryOutcome → Prop) (s t : State) : Prop :=
  ∃ es, t.trace = es ++ s.trace ∧ ∀ e ∈ es, ∀ o, outcomeOf e = some o → P o

theorem Reports.refl (s : State) : Reports P s s := ⟨[], rfl, by simp⟩

theorem Reports.trans (h : Reports P s t) (g : Reports P t u) : Reports P s u := by
  obtain ⟨es, ht, hes⟩ := h
  obtain ⟨es', hu, hes'⟩ := g
  refine ⟨es' ++ es, by rw [hu, ht, List.append_assoc], fun e hmem => ?_⟩
  exact (List.mem_append.mp hmem).elim (hes' e) (hes e)

/-- A transaction or a Wait reports no outcome. -/
theorem outcomeOf_primitive {e : Event} (he : isTransaction e = true ∨ ∃ t, e = .wait t) :
    outcomeOf e = none := by
  rcases he with he | ⟨t, rfl⟩
  · cases e with
    | rd _ _ | rdFail _ | wr _ _ | wrFail _ _ => rfl
    | _ => cases he
  · rfl

/-- From `s` to `t` the trace grows by what may be reported, and the sequencer's lock and the
choices of the environment stay. -/
structure Continues (P : RecoveryOutcome → Prop) (s t : State) : Prop where
  reports : Reports P s t
  lock : t.lock = s.lock
  grants : t.grants = s.grants
  agenda : t.agenda = s.agenda

theorem Continues.refl (s : State) : Continues P s s := ⟨.refl s, rfl, rfl, rfl⟩

theorem Continues.trans (h : Continues P s t) (g : Continues P t u) : Continues P s u :=
  ⟨h.reports.trans g.reports, g.lock.trans h.lock, g.grants.trans h.grants,
    g.agenda.trans h.agenda⟩

/-- No event is appended. -/
theorem Continues.of_trace (ht : t.trace = s.trace) (hl : t.lock = s.lock)
    (hg : t.grants = s.grants) (ha : t.agenda = s.agenda) : Continues P s t :=
  ⟨⟨[], ht, by simp⟩, hl, hg, ha⟩

/-- One event is appended. -/
theorem continues_record {e : Event} (he : ∀ o, outcomeOf e = some o → P o) (s : State) :
    Continues P s (record e s) :=
  ⟨⟨[e], rfl, fun _ hmem => List.mem_singleton.mp hmem ▸ he⟩, rfl, rfl, rfl⟩

/-- One event that reports no outcome. -/
theorem continues_silent {e : Event} (he : outcomeOf e = none) (s : State) :
    Continues P s (record e s) :=
  continues_record (by simp [he]) s

/-- One event that reports `o`. -/
theorem continues_report {e : Event} (he : outcomeOf e = some o) (ho : P o) (s : State) :
    Continues P s (record e s) :=
  continues_record (by rw [he]; rintro _ ⟨⟩; exact ho) s

theorem continues_drawReply (s : State) : Continues P s (drawReply s) := .of_trace rfl rfl rfl rfl

/-- A transaction takes one answer and reports no outcome (R74, R75). -/
theorem continues_transaction {e : Event} (he : isTransaction e = true) (s : State) :
    Continues P s (record e (drawReply s)) :=
  (continues_drawReply s).trans (continues_silent (outcomeOf_primitive (.inl he)) _)

theorem continues_waitFor (t : Delay) (s : State) : Continues P s (waitFor t s) :=
  ⟨⟨[.wait t], rfl, by simp [outcomeOf]⟩, rfl, rfl, rfl⟩

theorem continues_setTransportFault (s : State) : Continues P s (setTransportFault s) :=
  .of_trace rfl rfl rfl rfl

theorem continues_withInv (inv : Invocation) (s : State) : Continues P s (withInv inv s) :=
  .of_trace rfl rfl rfl rfl

/-- What one step of an invocation of `ag` does from `s` to `t`: beside what it appends, it keeps
the sequencer, or it frees it with its own End as its last event (R338, R343). -/
structure Conducts (P : RecoveryOutcome → Prop) (ag : Agent) (s t : State) : Prop where
  reports : Reports P s t
  lock : t.lock = s.lock ∨ (t.lock = none ∧ ∃ k L o, t.trace.head? = some (.ended ag k L o))
  grants : t.grants = s.grants

theorem Continues.conducts (h : Continues P s t) : Conducts P ag s t :=
  ⟨h.reports, .inl h.lock, h.grants⟩

theorem Continues.leads (h : Continues P s u) (g : Conducts P ag u t) : Conducts P ag s t :=
  ⟨h.reports.trans g.reports, h.lock ▸ g.lock, g.grants.trans h.grants⟩

/-- The End of an invocation frees the sequencer (R338). -/
theorem conducts_ended {k : Kind} {L : Option LaneId} (ho : P o) (s : State) :
    Conducts P ag s (release (record (.ended ag k L o) s)) where
  reports := (continues_report (e := .ended ag k L o) rfl ho s).reports
  lock := .inr ⟨rfl, k, L, o, rfl⟩
  grants := rfl

/-- What follows the End in its step leaves the trace and the sequencer alone. -/
theorem Conducts.of_same (h : Conducts P ag s u) (e : SameTrace u t) (hg : t.grants = u.grants) :
    Conducts P ag s t where
  reports := by rw [Reports, e.trace]; exact h.reports
  lock := by rw [e.lock, e.trace]; exact h.lock
  grants := hg.trans h.grants

/-! ## One primitive of an invocation -/

/-- A primitive reports no outcome, so the step is of its kind where what follows the primitive is:
it leads to a primitive or to a failing outcome, or its transaction fails. -/
theorem conducts_perform {op : MicroOp} {n : Nat} {go : Continuation} {fail : State → State}
    (hgo : ∀ p inv' u, ((∃ k, p = .run k) ∨ ∃ o, p = .returned o ∧ failing o = true) →
      Conducts P ag u (go p inv' u))
    (hfail : ∀ u, Conducts P ag u (fail u)) : Conducts P ag s (perform op n inv go fail s) := by
  have hnew {e : Event} {u : State} (he : isTransaction e = true ∨ ∃ t, e = .wait t)
      (htrace : u.trace = e :: s.trace) (hkept : Kept s u) : Continues P s u :=
    (continues_silent (outcomeOf_primitive he) s).trans
      (.of_trace htrace hkept.lock hkept.grants hkept.agenda)
  rcases perform_shape op n inv go fail s with
    ⟨e, p, inv', u, heq, -, htrace, -, he, hp, hkept, -⟩ | ⟨e, heq, -, he⟩
  · rw [heq]
    exact (hnew he htrace hkept).leads (hgo p inv' u hp)
  · rw [heq]
    have hkept := (kept_applyPre op.pre s).trans ((kept_drawReply _).trans (kept_record e _))
    exact (hnew (.inl he) (by simp) hkept).leads (hfail _)

/-! ## One step of an invocation -/

theorem conducts_goTo {p : Position} : Conducts P ag s (goTo p inv s) :=
  (continues_withInv _ s).conducts

/-- `finish o` of a host command ends it with the outcome `o`. -/
theorem conducts_finishHost (ho : P o) : Conducts P .host s (finishHost i o (finalOf i o s)) := by
  have hsame := finalOf_same i o s
  have hfixed : Part.Same .fixed s (finalOf i o s) := same_finalOf (by rintro ⟨⟩) o s
  simp only [Part.Same, Prod.mk.injEq] at hfixed
  obtain ⟨-, -, -, -, -, -, -, -, hagenda, -, hgrants, -⟩ := hfixed
  have hfinal : Continues P s (finalOf i o s) := .of_trace hsame.trace hsame.lock hgrants hagenda
  have hstatus : Continues P (finalOf i o s) { finalOf i o s with
      outcome := some o, busy := false, doneFlag := true, hostCmd := none } :=
    .of_trace rfl rfl rfl rfl
  exact (hfinal.trans hstatus).leads (conducts_ended ho _)

theorem continues_recoverEnd (o : RecoveryOutcome) (s : State) :
    Continues P s (recoverEnd o s) := by
  unfold recoverEnd
  split <;> exact .of_trace rfl rfl rfl rfl

theorem continues_chooseNext : Continues P s (chooseNext next left inv s) := by
  unfold chooseNext
  split
  · exact continues_withInv _ s
  · exact (continues_silent rfl s).trans (continues_withInv _ _)

theorem continues_sampleTaken {taken : List Bool} {b : Bool} :
    Continues P s (sampleTaken next taken b inv s) := by
  unfold sampleTaken
  split
  next b0 b1 b2 =>
    have hsampled : Continues P s { s with monSample := sampleWord b0 b1 b2 b } :=
      .of_trace rfl rfl rfl rfl
    exact hsampled.trans continues_chooseNext
  · exact continues_withInv _ s

/-- A recovery inside a tick reports its own outcome, in its End event and, for a failure, in a Log
event (R262, R298). -/
theorem continues_recoveryReturned (ho : P o) : Continues P s (recoveryReturned o L s) := by
  have hended : Continues P s (record (.ended .monitor .recover (some L) o) (recoverEnd o s)) :=
    (continues_recoverEnd o s).trans (continues_report rfl ho _)
  unfold recoveryReturned
  dsimp only
  split
  · exact hended
  · exact hended.trans (continues_report rfl ho _)

theorem conducts_endTick (ho : P o) : Conducts P .monitor s (endTick o s) :=
  Continues.leads (u := { s with monRef := s.now }) (.of_trace rfl rfl rfl rfl)
    (conducts_ended ho _)

/-- A failing outcome of an attempt's FP is logged, that of a failed transaction too (R300,
R333). -/
theorem conducts_attemptGoes {p : Position} (hp : ∀ o, p = .returned o → P o) :
    Conducts P ag s (attemptGoes l p inv s) := by
  cases p with
  | returned o => exact (continues_report rfl (hp o rfl) s).leads conducts_goTo
  | run _ | retried _ => exact conducts_goTo

theorem conducts_endAttempt (ho : P o) : Conducts P (irqAgent l) s (endAttempt l o s) := by
  have hended := conducts_ended (ag := irqAgent l) (k := .irqRetry)
    (L := some (.lane (irqLaneOf l))) ho s
  unfold endAttempt
  dsimp only
  split
  · exact hended.of_same (irqSet_same l _ _) (irqSet_grants l _ _)
  · split
    · exact hended.of_same (irqSet_same l _ _) (irqSet_grants l _ _)
    · exact hended

/-- An outcome that some rule produces (R330, R336). -/
def Produced (o : RecoveryOutcome) : Prop := o = .success ∨ failing o = true

/-- Where the invocation's procedure has returned, `P` holds of the outcome (R43). -/
def ReturnsIn (P : RecoveryOutcome → Prop) (inv : Invocation) : Prop :=
  ∀ o, inv.pos = .returned o ∨ inv.pos = .retried o → P o

theorem returnsIn_start {n : Nat} (h : inv.pos = .run n) : ReturnsIn P inv := by
  rintro o (ho | ho) <;> cases h.symm.trans ho

section

variable (hP : ∀ o, Produced o → P o)

include hP

theorem conducts_hostAdvance (hret : ReturnsIn P inv) :
    Conducts P .host s (hostAdvance i (fun c a d => codeOf c a d i) (finalOf i) a d inv s) := by
  unfold hostAdvance
  split
  next n hpos =>
    split
    · exact conducts_finishHost (hP _ (.inl rfl))
    · exact conducts_perform (fun _ _ _ _ => conducts_goTo) fun u =>
        (continues_setTransportFault u).leads (conducts_finishHost (hP .transportError (.inr rfl)))
  next o hpos => exact conducts_finishHost (hret o (.inl hpos))
  next o hpos => exact conducts_finishHost (hret o (.inr hpos))

theorem conducts_recoveryOver (ho : P o) :
    Conducts P .monitor s (recoveryOver next L left o inv s) := by
  unfold recoveryOver
  split
  · exact (continues_recoveryReturned ho).leads (conducts_endTick (hP _ (.inl rfl)))
  · exact ((continues_recoveryReturned ho).trans continues_chooseNext).conducts

theorem conducts_recoveryStep (hret : ReturnsIn P inv) :
    Conducts P .monitor s (recoveryStep next L left inv s) := by
  unfold recoveryStep
  dsimp only
  split
  next n hpos =>
    split
    · exact conducts_recoveryOver hP (hP _ (.inl rfl))
    · refine conducts_perform (fun p inv' u hp => ?_) fun u => ?_
      · unfold recoveryGoes
        split
        · exact conducts_goTo
        next o hend =>
          split
          · exact conducts_goTo
          · refine conducts_recoveryOver hP (hP o (endOf_ok ?_ hend))
            rintro o' (rfl | rfl)
            · obtain ⟨_, ⟨⟩⟩ | ⟨_, ⟨⟩, hf⟩ := hp
              exact hf
            · obtain ⟨_, ⟨⟩⟩ | ⟨_, ⟨⟩, -⟩ := hp
      · exact ((continues_setTransportFault u).trans ((continues_recoveryReturned
          (hP .transportError (.inr rfl))).trans continues_chooseNext)).conducts
  next o hpos => exact conducts_recoveryOver hP (hret o (.inl hpos))
  next o hpos => exact conducts_recoveryOver hP (hret o (.inr hpos))

theorem conducts_sampleStep {taken : List Bool} :
    Conducts P .monitor s (sampleStep next taken inv s) := by
  unfold sampleStep
  cases hr : nextReply s with
  | ok v =>
    rw [memRead_ok hr]
    have hread := continues_transaction (P := P)
      (e := .rd (addrOf (txpllStat (cfgOf s)) (sampleLane taken.length)) v) rfl s
    exact (hread.trans continues_sampleTaken).conducts
  | fail =>
    rw [memRead_fail hr]
    have ho : P .transportError := hP _ (.inr rfl)
    exact ((continues_transaction (by rfl) s).trans ((continues_setTransportFault _).trans
      (continues_report (by rfl) ho _))).leads (conducts_endTick ho)

theorem conducts_tickStep {phase : TickPhase}
    (hret : ReturnsIn P inv) :
    Conducts P .monitor s (tickStep next phase inv s) := by
  cases phase with
  | sample taken => exact conducts_sampleStep hP
  | recover L left => exact conducts_recoveryStep hP hret
  | finish => exact conducts_endTick (hP _ (.inl rfl))

theorem conducts_attemptStep (hret : ReturnsIn P inv) :
    Conducts P (irqAgent l) s (attemptStep l inv s) := by
  unfold attemptStep
  split
  next n hpos =>
    split
    · exact conducts_endAttempt (hP _ (.inl rfl))
    · refine conducts_perform (fun p inv' u hp => conducts_attemptGoes ?_) fun u => ?_
      · rintro o rfl
        exact hP o (.inr (by simpa using hp))
      · refine (continues_setTransportFault u).leads (conducts_attemptGoes ?_)
        rintro _ ⟨⟩
        exact hP _ (.inr rfl)
  next o hpos =>
    unfold attemptReturned
    split
    · exact (continues_waitFor _ s).leads conducts_goTo
    · exact conducts_endAttempt (hret o (.inl hpos))
  next o hpos => exact conducts_endAttempt (hret o (.inr hpos))

/-- A step of the invocation that holds the sequencer is one of its agent's. -/
theorem conducts_resume (hlock : s.lock = some ag) (hinv : s.inv = some inv)
    (hret : ReturnsIn P inv)
    (ht : resume exec next s = .next t) : Conducts P (procAgent inv.proc) s t := by
  simp only [resume, hinv] at ht
  split at ht
  next c a d hp =>
    rw [exec_held hlock hinv hp] at ht
    cases ht
    rw [hp]
    exact conducts_hostAdvance hP hret
  next phase hp =>
    cases ht
    rw [hp]
    exact conducts_tickStep hP hret
  next l hp =>
    cases ht
    rw [hp]
    exact conducts_attemptStep hP hret

/-! ## Grants -/

/-- A command that is granted begins, and takes its first step (R142). -/
theorem conducts_beginHost (h : Ready i a d s) (ht : exec i s = .next t) :
    Conducts P .host (beginHost i s) t := by
  cases (exec_ready h).symm.trans ht
  exact conducts_hostAdvance hP (returnsIn_start rfl)

/-- A tick that is granted begins, and takes its first step (R295). -/
theorem conducts_beginTick : Conducts P .monitor (beginTick s)
    (tickStep next (.sample []) tickStart (beginTick s)) :=
  conducts_sampleStep hP

/-- An attempt that is granted begins, and takes its first step (R300). -/
theorem conducts_beginAttempt : Conducts P (irqAgent l) (beginAttempt l s)
    (attemptStep l (attemptStart l) (beginAttempt l s)) :=
  conducts_attemptStep hP (returnsIn_start rfl)

end

end

/-! ## The other agents' moves -/

section

variable {P : RecoveryOutcome → Prop} {s t : State}

/-- A host write to CMD leaves the sequencer and the environment alone, and appends nothing of its
own (R140). -/
theorem continues_cmdWrite (w : Word) (s : State) : Continues P s (cmdWrite w s) := by
  have haccept (c : Instr) : Continues P s (accept w c (clearRequest s)) := by
    unfold accept
    dsimp only
    split <;> exact .of_trace rfl rfl rfl rfl
  have hrefuse (r : RefuseReason) : Continues P s (refuse r (clearRequest s)) :=
    .of_trace rfl rfl rfl rfl
  unfold cmdWrite
  split
  · exact .of_trace rfl rfl rfl rfl
  · split
    · exact hrefuse _
    next c _ =>
      unfold request
      split
      · exact hrefuse _
      · split
        · exact hrefuse _
        · exact haccept c

theorem continues_hostWrite (off : BitVec 4) (v : Word) (s : State) :
    Continues P s (hostWrite off v s) := by
  refine (continues_silent (e := .hostWr off v) rfl s).trans ?_
  unfold hostWrite hostEffect
  split
  · exact continues_cmdWrite v _
  · split
    · exact .of_trace rfl rfl rfl rfl
    · split <;> exact .of_trace rfl rfl rfl rfl

theorem continues_hostRead (off : BitVec 4) (s : State) : Continues P s (hostRead off s) :=
  continues_silent rfl s

theorem continues_hostProgramStep (s : State) : Continues P s (hostProgramStep s) := by
  have hprog (rest : List HostPrim) : Continues P s { s with hostProg := rest } :=
    .of_trace rfl rfl rfl rfl
  unfold hostProgramStep
  split
  · exact .refl s
  · exact (hprog _).trans (continues_hostWrite _ _ _)
  · exact (hprog _).trans (continues_hostRead _ _)
  · split
    · exact (hprog _).trans (continues_hostRead _ _)
    · exact continues_hostRead _ _

theorem continues_timerStep (s : State) : Continues P s (timerStep s) := by
  unfold timerStep
  split <;> exact .of_trace rfl rfl rfl rfl

theorem continues_irqSet (l : IrqLane) (x : IrqLine) (s : State) :
    Continues P s (irqSet l x s) := by
  cases l <;> exact .of_trace rfl rfl rfl rfl

theorem continues_irqSample (l : IrqLane) (level : Bool) (s : State) :
    Continues P s (irqSample l level s) := by
  unfold irqSample
  split
  · dsimp only
    split <;> exact continues_irqSet _ _ _
  · exact .refl s

/-- Only the sequencer and a reset do anything to the lock, the draws or the agenda (R30, R343). -/
theorem continues_takeMove {m : Move} (hseq : Config.isSequencer m = false)
    (hreset : ∀ l2 l3, m ≠ .reset l2 l3) (ht : takeMove exec m s = .next t) :
    Continues P s t := by
  cases m with
  | sequencer next => cases hseq
  | hostWrite off v => cases ht; exact continues_hostWrite off v s
  | hostRead off => cases ht; exact continues_hostRead off s
  | hostProgram => cases ht; exact continues_hostProgramStep s
  | timer => cases ht; exact continues_timerStep s
  | irqSample l level => cases ht; exact continues_irqSample l level s
  | elapse us => cases ht; exact .of_trace rfl rfl rfl rfl
  | reset l2 l3 => exact absurd rfl (hreset l2 l3)

end

theorem exists_of_isSequencer {m : Move} (h : Config.isSequencer m = true) :
    ∃ next, m = .sequencer next := by
  cases m with
  | sequencer next => exact ⟨next, rfl⟩
  | _ => cases h

/-! ## No invocation preempts another (R340, R343) -/

/-- A step beside a held sequencer keeps the lock, or is the End of its holder. -/
theorem step_keeps_or_ends {s t : State} {ag : Agent} (h : TraceInv s) (ht : step s = .next t)
    (hreset : ∀ l2 l3, nextMove s ≠ .reset l2 l3) (hlock : s.lock = some ag) :
    t.lock = s.lock ∨ (t.lock = none ∧ ∃ k L o, t.trace.head? = some (.ended ag k L o)) := by
  cases hseq : Config.isSequencer (nextMove s) with
  | false => exact .inl (continues_takeMove (P := fun _ => True) hseq hreset ht).lock
  | true =>
    obtain ⟨next, hm⟩ := exists_of_isSequencer hseq
    rw [step_of_sequencer hm, sequencerMove_held (s := takeTurn s) hlock] at ht
    obtain ⟨inv, hinv, rfl⟩ := Option.map_eq_some_iff.mp (h.lock_eq.symm.trans hlock)
    exact (conducts_resume (P := fun _ => True) (s := takeTurn s) (fun _ _ => trivial) hlock hinv
      (fun _ _ => trivial) ht).lock

/-- Settles O21: the sequencer's move is a step of the invocation that holds it, which keeps the
lock until its End, and no other agent's move touches the lock. -/
theorem lockHeldToEnd : Obligations.LockHeldToEnd := by
  intro s t ag h ht hreset hlock
  rw [← hlock]
  exact step_keeps_or_ends h ht hreset hlock

/-! ## The outcomes that are reported (R336) -/

section

variable {s t : State} {next : Lane}

/-- What a grant appends, and that it leaves the draws. -/
theorem grantTo_reports {P : RecoveryOutcome → Prop} (hP : ∀ o, Produced o → P o) {who : Agent}
    (hfree : s.lock = none) (ht : grantTo exec who next s = .next t) :
    Reports P s t ∧ t.grants = s.grants := by
  have hbegun {ag : Agent} {k : Kind} {L : Option LaneId} {u : State}
      (hu : u.trace = .began ag k L :: s.trace) (hg : u.grants = s.grants)
      (h : Conducts P ag u t) : Reports P s t ∧ t.grants = s.grants :=
    ⟨.trans ⟨[.began ag k L], hu, by simp [outcomeOf]⟩ h.reports, h.grants.trans hg⟩
  have hirq (l : IrqLane) (ht : t = grantIrq l s) : Reports P s t ∧ t.grants = s.grants := by
    subst ht
    by_cases hquiet : s.bound = false ∨ detachAccepted s = true
    · rw [grantIrq_quiet hquiet, ← endBurst_eq]
      exact ⟨(continues_irqSet l _ s).reports, (continues_irqSet (P := P) l _ s).grants⟩
    · obtain ⟨hbound, hdetach⟩ := not_or.mp hquiet
      rw [grantIrq_attempt (by simpa using hbound) (by simpa using hdetach)] at hbegun ⊢
      exact hbegun (k := .irqRetry) (L := some (.lane (irqLaneOf l))) (by simp [beginAttempt])
        (by simp [beginAttempt]) (conducts_beginAttempt hP)
  cases who with
  | host =>
    simp only [grantTo] at ht
    split at ht
    next c hc =>
      have hready : Ready c.cmd c.addr c.data s := ⟨hfree, hc⟩
      exact hbegun (u := beginHost c.cmd s) rfl rfl (conducts_beginHost hP hready ht)
    next => cases ht; exact ⟨.refl s, rfl⟩
  | monitor => cases ht; exact hbegun (u := beginTick s) rfl rfl (conducts_beginTick hP)
  | irq2 => cases ht; exact hirq .l2 rfl
  | irq3 => cases ht; exact hirq .l3 rfl

/-- A move of the sequencer reports the outcomes that some rule produces, as its invocation returns
no other. -/
theorem sequencerMove_reports (h : Inv s) (ht : sequencerMove exec next s = .next t) :
    Reports Produced s t := by
  cases hl : s.lock with
  | none =>
    rw [sequencerMove_free hl, grant] at ht
    split at ht
    · cases ht; exact .refl s
    next who rest _ =>
      exact (grantTo_reports (s := { s with grants := rest }) (fun _ => id) hl ht).1
  | some ag =>
    rw [sequencerMove_held hl] at ht
    obtain ⟨inv, hinv, -⟩ := Option.map_eq_some_iff.mp (h.invocation.lock_eq.symm.trans hl)
    exact (conducts_resume (fun _ => id) hl hinv
      (fun o ho => .inr (h.invocation.returned_ok inv o hinv ho)) ht).reports

theorem step_reports (h : Inv s) (ht : step s = .next t)
    (hreset : ∀ l2 l3, nextMove s ≠ .reset l2 l3) : Reports Produced s t := by
  cases hseq : Config.isSequencer (nextMove s) with
  | false => exact (continues_takeMove hseq hreset ht).reports
  | true =>
    obtain ⟨next, hm⟩ := exists_of_isSequencer hseq
    rw [step_of_sequencer hm] at ht
    show Reports Produced (takeTurn s) t
    exact sequencerMove_reports h.takeTurn ht

theorem laneFieldOf_le (i : Instr) : laneFieldOf i ≤ 4#3 := by
  cases i with
  | probe | detach | regRead | regWrite => decide
  | txRestart l => exact Laws.codeOfLane_le l
  | _ => exact Laws.codeOfLaneId_le _

/-- A reserved LANE code stands in no command's word (R102, R111). -/
theorem decode_reserved_lane {w : Word} (h : 5#3 ≤ fieldLane w) (c : Instr) : decode w ≠ .ok c := by
  intro hd
  obtain ⟨-, -, hlane, -⟩ := fields_of_decode hd
  rw [hlane] at h
  exact absurd (BitVec.le_trans h (laneFieldOf_le c)) (by decide)

end

/-- Settles O14: the invariant of the next state bounds what stands in STATUS and FSM,
`step_reports` the events, and a reserved LANE code is refused before any outcome. -/
theorem reservedKindsNeverProduced : Obligations.ReservedKindsNeverProduced := by
  refine ⟨fun s t h ht => ⟨?_, step_reports h ht⟩, fun o => ?_, fun w s hlane hm hidle => ?_⟩
  · have hinv : Inv t := stepKeepsInv s t h ht
    rintro o (ho | ho)
    · exact hinv.host.outcome_ok o ho
    · exact .inr (hinv.fsm.reason_ok o ho)
  · cases o <;> decide
  · refine ⟨_, step_cmdWrite hm, ?_⟩
    rw [cmdWrite_illegal (by exact hidle) (decode_reserved_lane hlane)]
    exact ⟨rfl, rfl, rfl⟩

/-! ## The grants (R342, R343) -/

section

variable {s t : State} {ag who : Agent} {next : Lane} {rest before : List Agent}

@[simp] theorem requests_takeTurn (s : State) (ag : Agent) :
    requests (takeTurn s) ag = requests s ag := by
  cases ag <;> rfl

/-- The next step is a move of the sequencer, and the sequencer is free (R343). -/
def Granting (s : State) : Prop := s.lock = none ∧ Config.isSequencer (nextMove s) = true

theorem Granting.move (h : Granting s) : ∃ next, nextMove s = .sequencer next :=
  exists_of_isSequencer h.2

theorem granting_of_sequencer (hfree : s.lock = none) (hm : nextMove s = .sequencer next) :
    Granting s :=
  ⟨hfree, by rw [hm]; rfl⟩

/-- Such a step grants the choice of the draw. -/
theorem Granting.grantedAt_eq (h : Granting s) :
    grantedAt s = (grantChoice (takeTurn s)).map Prod.fst :=
  if_pos h

theorem Granting.choice (h : Granting s) (hg : grantedAt s = some ag) :
    ∃ rest, grantChoice (takeTurn s) = some (ag, rest) := by
  rw [h.grantedAt_eq] at hg
  obtain ⟨⟨_, rest⟩, hc, rfl⟩ := Option.map_eq_some_iff.mp hg
  exact ⟨rest, hc⟩

/-- Something is granted whenever something is pending. -/
theorem Granting.grants_pending (h : Granting s) (hreq : requests s ag = true) :
    ∃ who rest, grantChoice (takeTurn s) = some (who, rest) ∧ grantedAt s = some who ∧
      requests s who = true := by
  cases hc : grantChoice (takeTurn s) with
  | none =>
    have hnone := (grantChoice_spec (takeTurn s)).2.mp hc ag
    rw [requests_takeTurn, hreq] at hnone
    cases hnone
  | some choice =>
    obtain ⟨who, rest⟩ := choice
    refine ⟨who, rest, rfl, by rw [h.grantedAt_eq, hc]; rfl, ?_⟩
    rw [← requests_takeTurn]
    exact (grantChoice_spec (takeTurn s)).1 who rest hc

/-- A free sequencer with nothing pending only takes its move. -/
theorem step_of_none_pending (hfree : s.lock = none) (hm : nextMove s = .sequencer next)
    (hnone : ∀ ag, requests s ag = false) : step s = .next (takeTurn s) := by
  have hchoice : grantChoice (takeTurn s) = none :=
    (grantChoice_spec (takeTurn s)).2.mpr fun ag => (requests_takeTurn s ag).trans (hnone ag)
  rw [step_of_sequencer hm, sequencerMove_free (s := takeTurn s) hfree, grant, hchoice]

/-- The first step of an invocation appends to the trace with its Begin event. -/
theorem Conducts.appends {P : RecoveryOutcome → Prop} {e : Event} (h : Conducts P ag s t)
    {es : List Event} (hs : s.trace = e :: es) : ∃ es', t.trace = es' ++ e :: es := by
  obtain ⟨es', ht, -⟩ := h.reports
  exact ⟨es', hs ▸ ht⟩

/-- The accepted command that is granted begins (R142). -/
theorem Granting.begins_command {c : HostCmd} (h : Granting s) (hg : grantedAt s = some .host)
    (hc : s.hostCmd = some c) : ∃ t es, step s = .next t ∧
      t.trace = es ++ .began .host (kindOf c.cmd) (laneOperand c.cmd) :: s.trace := by
  obtain ⟨next, hm⟩ := h.move
  obtain ⟨rest, hchoice⟩ := h.choice hg
  have hready : Ready c.cmd c.addr c.data { takeTurn s with grants := rest } := ⟨h.1, hc⟩
  have hstep := step_of_host_granted ⟨h.1, hc⟩ hm hchoice
  obtain ⟨t, ht⟩ := exec_answers c.cmd { takeTurn s with grants := rest }
  obtain ⟨es, hes⟩ := (conducts_beginHost (fun _ => id) hready ht).appends rfl
  exact ⟨t, es, hstep.trans ht, hes⟩

/-- The due tick that is granted begins (R295). -/
theorem Granting.begins_tick (h : Granting s) (hg : grantedAt s = some .monitor) :
    ∃ t es, step s = .next t ∧ t.trace = es ++ .began .monitor .tick none :: s.trace := by
  obtain ⟨next, hm⟩ := h.move
  obtain ⟨rest, hchoice⟩ := h.choice hg
  obtain ⟨es, hes⟩ := (conducts_beginTick (P := Produced)
    (s := { takeTurn s with grants := rest }) (next := next) fun _ => id).appends rfl
  exact ⟨_, es, step_of_monitor_granted h.1 hm hchoice, hes⟩

/-- The interrupt retry that is granted begins an attempt where it may run (R300). -/
theorem Granting.begins_attempt {l : IrqLane} (h : Granting s)
    (hg : grantedAt s = some (irqAgent l)) (hbound : s.bound = true)
    (hdetach : detachAccepted s = false) : ∃ t es, step s = .next t ∧
      t.trace = es ++ .began (irqAgent l) .irqRetry (some (.lane (irqLaneOf l))) :: s.trace := by
  obtain ⟨next, hm⟩ := h.move
  obtain ⟨rest, hchoice⟩ := h.choice hg
  have hstep := step_of_irq_granted h.1 hm hchoice
  rw [grantIrq_attempt (s := { takeTurn s with grants := rest }) hbound hdetach] at hstep
  obtain ⟨es, hes⟩ := (conducts_beginAttempt (P := Produced)
    (s := { takeTurn s with grants := rest }) (l := l) fun _ => id).appends
    (e := .began (irqAgent l) .irqRetry (some (.lane (irqLaneOf l)))) (es := s.trace)
    (by simp [beginAttempt])
  exact ⟨_, es, hstep, hes⟩

/-! ## How long a pending request is passed over (R343; log 29) -/

/-- How far the draws left are from granting a pending request: a new round, which names every
requester, or the draws that may still come before it. -/
def distance (ag : Agent) (gs : List Agent) : ℕ ×ₗ ℕ := toLex (if ag ∈ gs then 0 else 1, gs.length)

/-- A pending request that is passed over was not among the draws before the granted one. -/
theorem mem_of_passed_over (hpend : requests s ag = true) (hne : who ≠ ag)
    (hbefore : ∀ b ∈ before, requests s b = false) (hmem : ag ∈ before ++ who :: rest) :
    ag ∈ rest := by
  rcases List.mem_append.mp hmem with hb | hw
  · rw [hbefore ag hb] at hpend
    cases hpend
  · exact (List.mem_cons.mp hw).resolve_left hne.symm

/-- A grant to another requester brings a pending one closer. -/
theorem distance_of_grantChoice (hpend : requests s ag = true) (hne : who ≠ ag)
    (hc : grantChoice s = some (who, rest)) : distance ag rest < distance ag s.grants := by
  rw [distance, distance, Prod.Lex.toLex_lt_toLex]
  unfold grantChoice at hc
  split at hc
  next choice hfirst =>
    cases hc
    obtain ⟨before, hgs, -, hbefore⟩ := firstRequest_some hfirst
    rw [hgs]
    by_cases hmem : ag ∈ before ++ who :: rest
    · rw [if_pos hmem, if_pos (mem_of_passed_over hpend hne hbefore hmem)]
      exact .inr ⟨rfl, by simp; omega⟩
    · have hrest : ag ∉ rest := fun hr =>
        hmem (List.mem_append_right _ (List.mem_cons_of_mem _ hr))
      rw [if_neg hmem, if_neg hrest]
      exact .inr ⟨rfl, by simp; omega⟩
  next hnone =>
    obtain ⟨before, hround, -, hbefore⟩ := firstRequest_some hc
    have hnot : ag ∉ s.grants := fun hmem => by
      rw [firstRequest_none.mp hnone ag hmem] at hpend
      cases hpend
    have hrest : ag ∈ rest :=
      mem_of_passed_over hpend hne hbefore (hround ▸ mem_grantRound s.turn ag)
    rw [if_pos hrest, if_neg hnot]
    exact .inl Nat.zero_lt_one

/-- A step that grants another requester brings a pending one closer. -/
theorem Granting.closer (h : Granting s) (hpend : requests s ag = true)
    (hnot : grantedAt s ≠ some ag) (ht : step s = .next t) :
    distance ag t.grants < distance ag s.grants := by
  obtain ⟨next, hm⟩ := h.move
  obtain ⟨who, rest, hchoice, hgranted, -⟩ := h.grants_pending hpend
  have hne : who ≠ ag := by
    rintro rfl
    exact hnot hgranted
  rw [step_of_sequencer hm, sequencerMove_free (s := takeTurn s) h.1, grant, hchoice] at ht
  rw [(grantTo_reports (P := Produced) (s := { takeTurn s with grants := rest })
    (fun _ => id) h.1 ht).2]
  exact distance_of_grantChoice (s := takeTurn s) ((requests_takeTurn s ag).trans hpend) hne hchoice

/-- A move of another agent leaves the draws and the agenda, and frees the sequencer or leaves
it. -/
theorem step_beside (hseq : Config.isSequencer (nextMove s) = false) (ht : step s = .next t) :
    (t.lock = s.lock ∨ t.lock = none) ∧ t.grants = s.grants ∧ t.agenda = (movesAhead s).tail := by
  by_cases hreset : ∃ l2 l3, nextMove s = .reset l2 l3
  · obtain ⟨l2, l3, hm⟩ := hreset
    rw [step_reset hm] at ht
    cases ht
    exact ⟨.inr rfl, rfl, rfl⟩
  · push Not at hreset
    have hcont : Continues Produced (takeTurn s) t := continues_takeMove hseq hreset ht
    exact ⟨.inl hcont.lock, hcont.grants, hcont.agenda⟩

/-- Every other step leaves the draws. -/
theorem grants_of_not_granting (h : ¬ Granting s) (ht : step s = .next t) :
    t.grants = s.grants := by
  cases hseq : Config.isSequencer (nextMove s) with
  | false => exact (step_beside hseq ht).2.1
  | true =>
    cases hl : s.lock with
    | none => exact absurd ⟨hl, hseq⟩ h
    | some holder =>
      obtain ⟨next, hm⟩ := exists_of_isSequencer hseq
      rw [step_of_sequencer hm, sequencerMove_held (s := takeTurn s) hl] at ht
      cases hinv : (takeTurn s).inv with
      | none =>
        simp only [resume, hinv] at ht
        cases ht
        rfl
      | some inv =>
        exact (conducts_resume (P := fun _ => True) (s := takeTurn s) (fun _ _ => trivial) hl hinv
          (fun _ _ => trivial) ht).grants

end

/-! ## A request that stays pending is granted (R343) -/

/-- `run` is a run of the machine. -/
def IsRun (run : ℕ → State) : Prop := ∀ n, step (run n) = .next (run (n + 1))

/-- Every state has its run, since every step answers. -/
theorem exists_run (s : State) : ∃ run, IsRun run ∧ ∀ n, stepTimes n s = .next (run n) := by
  choose next hnext using step_answers
  refine ⟨fun n => next^[n] s, fun n => ?_, fun n => ?_⟩
  · simp only [Function.iterate_succ_apply', hnext]
  · induction n generalizing s with
    | zero => rfl
    | succ n ih => simp only [stepTimes_succ (hnext s), ih, Function.iterate_succ_apply]

section

variable {run : ℕ → State} {ag : Agent}

/-- With a move of the sequencer ahead, a free sequencer comes to grant. -/
theorem IsRun.granting_of_ahead (hrun : IsRun run) (ms : List Move)
    (hms : ms.any Config.isSequencer = true) {n : ℕ} (hahead : movesAhead (run n) = ms)
    (hfree : (run n).lock = none) : ∃ m ≥ n, Granting (run m) := by
  induction ms generalizing n with
  | nil => cases hms
  | cons move rest ih =>
    have hmove : nextMove (run n) = move := by rw [nextMove, hahead]; rfl
    cases hseq : Config.isSequencer move with
    | true => exact ⟨n, le_rfl, hfree, hmove ▸ hseq⟩
    | false =>
      obtain ⟨hlock, -, hagenda⟩ := step_beside (hmove ▸ hseq) (hrun n)
      rw [hahead] at hagenda
      have hrest : rest.any Config.isSequencer = true := by simpa [hseq] using hms
      obtain ⟨m, hm, hgranting⟩ := ih hrest (n := n + 1)
        (by
          cases rest with
          | nil => cases hrest
          | cons => simp [movesAhead, hagenda])
        (hlock.elim (·.trans hfree) id)
      exact ⟨m, (Nat.le_succ n).trans hm, hgranting⟩

/-- A free sequencer comes to grant: it does so when the agenda names its move, or in the round of
moves after the agenda (log 3). -/
theorem IsRun.granting_of_free (hrun : IsRun run) {n : ℕ} (hfree : (run n).lock = none) :
    ∃ m ≥ n, Granting (run m) := by
  generalize hagenda : (run n).agenda = ms
  induction ms generalizing n with
  | nil =>
    exact hrun.granting_of_ahead _ (moveRound_any (run n).turn)
      (by simp [movesAhead, hagenda]) hfree
  | cons move rest ih =>
    cases hseq : Config.isSequencer (nextMove (run n)) with
    | true => exact ⟨n, le_rfl, hfree, hseq⟩
    | false =>
      obtain ⟨hlock, -, htail⟩ := step_beside hseq (hrun n)
      obtain ⟨m, hm, hgranting⟩ := ih (n := n + 1) (hlock.elim (·.trans hfree) id)
        (by rw [htail, movesAhead, hagenda]; rfl)
      exact ⟨m, (Nat.le_succ n).trans hm, hgranting⟩

/-- Where a request stays pending and is never granted, the sequencer is free only finitely often:
each grant to another requester brings it closer, and no step takes it away again. -/
theorem IsRun.held_of_passed_over (hrun : IsRun run) (hpend : ∀ n, requests (run n) ag = true)
    (hnot : ∀ n, grantedAt (run n) ≠ some ag) : ∃ n, ∀ m, n ≤ m → (run m).lock ≠ none := by
  have hanti : Antitone fun n => distance ag (run n).grants := antitone_nat_of_succ_le fun n => by
    by_cases hg : Granting (run n)
    · exact (hg.closer (hpend n) (hnot n) (hrun n)).le
    · rw [grants_of_not_granting hg (hrun n)]
  obtain ⟨n, hn⟩ := WellFoundedLT.antitone_chain_condition hanti
  refine ⟨n, fun m hm hfree => ?_⟩
  obtain ⟨k, hk, hg⟩ := hrun.granting_of_free hfree
  have hnk : n ≤ k := hm.trans hk
  have hcloser := hg.closer (hpend k) (hnot k) (hrun k)
  exact hcloser.ne ((hn (k + 1) (hnk.trans (Nat.le_succ k))).symm.trans (hn k hnk))

end

/-- Settles O59: the clauses of a grant are those of `grantChoice`, each requester's begin being the
first step of its invocation; and a request is passed over only finitely often. -/
theorem anyRequesterGranted : Obligations.AnyRequesterGranted := by
  refine ⟨fun next s hfree hm => ?_, fun s ag _ => ?_⟩
  · have hg : Granting s := granting_of_sequencer hfree hm
    refine ⟨step_of_none_pending hfree hm, ?_, fun ag rest hreq hgrants => ?_,
      fun c hgranted hc => hg.begins_command hgranted hc, hg.begins_tick,
      fun l hgranted hbound hdetach => hg.begins_attempt hgranted hbound hdetach⟩
    · rintro ⟨ag, hreq⟩
      obtain ⟨who, -, -, hgranted, hwho⟩ := hg.grants_pending hreq
      exact ⟨who, hgranted, hwho⟩
    · rw [hg.grantedAt_eq, grantChoice_head (s := takeTurn s) hgrants (by simpa using hreq)]
      rfl
  · obtain ⟨run, hrun, hsteps⟩ := exists_run s
    refine or_iff_not_imp_left.mpr fun hnever => ?_
    push Not at hnever
    obtain ⟨n, hn⟩ := hrun.held_of_passed_over
      (fun n => by simpa using (hnever n (run n) (hsteps n)).1)
      (fun n => (hnever n (run n) (hsteps n)).2)
    exact ⟨n, fun m t hm ht => by cases (hsteps m).symm.trans ht; exact hn m hm⟩

end Sys2Proof.Machine
end

section
/-! The statements of reset (spec/70_reset_and_hazards R370): the values a reset leaves, and the
three invariants of the state after it. -/

namespace Sys2Proof.Machine

/-! ## The state after a reset (R370) -/

/-- No host register shows what a reset leaves alone, the environment's own fields (R31; log 14). -/
theorem hostRegister_applyReset (off : BitVec 4) (level2 level3 : Bool) (s : State) :
    hostRegister off (applyReset level2 level3 s) =
      hostRegister off (State.resetWith s.conf level2 level3) := rfl

/-- A reset in any state leaves what R370's table says. -/
theorem afterReset_applyReset (level2 level3 : Bool) (s : State) :
    AfterReset level2 level3 (applyReset level2 level3 s) :=
  have htable := afterReset_resetWith s.conf level2 level3
  { htable with
    registers := fun off => (hostRegister_applyReset off level2 level3 s).trans (htable.registers off) }

/-- A reset abandons the invocation and empties the trace, so none is open (R370, R87). -/
theorem traceInv_applyReset (level2 level3 : Bool) (s : State) :
    TraceInv (applyReset level2 level3 s) where
  lock_eq := rfl
  open_eq := rfl
  trace_ok := rfl
  fault_eq := rfl

/-- A reset leaves no invocation, so no recovery stands in a stage (R370, R262). -/
theorem stageInv_applyReset (level2 level3 : Bool) (s : State) :
    StageInv (applyReset level2 level3 s) :=
  stageInv_iff.mpr fun _ hinv => nomatch hinv

/-- A reset of the machine's own start, at the interrupt levels it has, changes nothing. -/
theorem applyReset_reset :
    applyReset (Config.irqLevelAtReset .l2) (Config.irqLevelAtReset .l3) State.reset =
      State.reset := rfl

/-- Settles O9: a step whose move is the reset ends in `applyReset`, and the machine's own start is a
`resetWith`; both leave the table. -/
theorem resetValues : Obligations.ResetValues := by
  refine ⟨fun s l2 l3 hm => ?_, afterReset_resetWith _ _ _⟩
  exact ⟨_, step_reset hm, afterReset_applyReset l2 l3 (takeTurn s)⟩

/-- Settles O10: the machine's own start is what a reset leaves of it, and a reset leaves the three
invariants in any state. -/
theorem resetIsWellFormed : Obligations.ResetIsWellFormed := by
  unfold Obligations.ResetIsWellFormed
  rw [← applyReset_reset]
  exact ⟨inv_applyReset _ _ _, traceInv_applyReset _ _ _, stageInv_applyReset _ _ _⟩

end Sys2Proof.Machine
end
